-- ==== Sys2Proof/Word.lean ====
section
/-! DEFINITION. Word and byte types of the block: 32-bit bus words (20_memory.md R41), 8-bit register fields and characters (00_scope.md R5). -/

namespace Sys2Proof

/-- An 8-bit register field, or one character. -/
abbrev Byte := BitVec 8

/-- A 32-bit bus word: `wdata` or `rdata` (20_memory.md R41). -/
abbrev Word := BitVec 32

end Sys2Proof
end

