-- ==== Sys2Proof/Syntax.lean ====
section
/-! DEFINITION. The operations of the block: one constructor for each row of spec/opcode_table.json,
and the inputs that reach the block from outside. -/

namespace Sys2Proof

/-- The operations. A write carries the whole word `wdata` (20_memory.md R41); each meaning slices
it (30_encoding.md R76). -/
inductive Instr where
  -- 40_data_path.md
  | rdRbr
  | wrThr (wdata : Word)
  | rdScr
  | wrScr (wdata : Word)
  -- 41_divisor_config.md
  | rdDll
  | wrDll (wdata : Word)
  | rdDlh
  | wrDlh (wdata : Word)
  | wrLcr (wdata : Word)
  | rdLcr
  | rdDlf
  | wrDlf (wdata : Word)
  -- 42_fifo_modem_control.md
  | rdIer
  | wrIer (wdata : Word)
  | rdIir
  | wrFcr (wdata : Word)
  | rdMcr
  | wrMcr (wdata : Word)
  -- 43_status.md
  | rdLsr
  | rdUsr
  | rdMsr
  | rdTfl
  | rdRfl
  | rdCpr
  | rdUcv
  | rdCtr
  | wrLsr (wdata : Word)
  | wrMsr (wdata : Word)
  | wrUsr (wdata : Word)
  | wrTfl (wdata : Word)
  | wrRfl (wdata : Word)
  | wrCpr (wdata : Word)
  | wrUcv (wdata : Word)
  | wrCtr (wdata : Word)
  -- the two fallback rows, 30_encoding.md R77; they carry the window and the offset they were
  -- decoded from, so that they can be encoded (DESIGN CHOICE, safe: log 8)
  | rsvdRd (dlab : Bool) (offset : Byte)
  | rsvdWr (dlab : Bool) (offset : Byte) (wdata : Word)
  -- 44_line_events.md
  | txTake
  | txDone
  | rxStart
  | rxChar (byte : Byte) (pe fe bi : Bool)
  | modemChange (lines : BitVec 4)
  -- 70_reset_and_hazards.md
  | reset
  deriving DecidableEq, Repr

/-- What reaches the block from outside, one atomic step each (00_scope.md R8). -/
inductive Input where
  /-- A host access of `width` bytes at byte offset `offset` from BASE: `MemWrite` of `wdata` when
  `wr`, else `MemRead` (00_scope.md R7, 20_memory.md R41, R42). -/
  | access (wr : Bool) (offset width : Nat) (wdata : Word)
  /-- An event of the serial side or of reset: its code and its operand bits (30_encoding.md R80). -/
  | event (ev : BitVec 3) (operands : BitVec 11)
  deriving DecidableEq, Repr

end Sys2Proof
end

