-- ==== Sys2Proof/WellFormed.lean ====
section
/-! DEFINITION. Which operations are well formed: only the two fallback rows have a check, that
their offset is a reserved one (30_encoding.md R77). Every other operand is bounded by its type. -/

namespace Sys2Proof

/-- The reserved offsets as R77 of 30_encoding.md lists them: "offsets 0x20 to 0x78, 0x88 to 0xBC,
0xC4 to 0xF0, and offset 0xC0 with DLAB = 0", each a multiple of 4 (R60). -/
def reservedOffset (dlab : Bool) (offset : Byte) : Bool :=
  offset.toNat % 4 == 0 &&
    ((0x20 ≤ offset.toNat && offset.toNat ≤ 0x78) ||
     (0x88 ≤ offset.toNat && offset.toNat ≤ 0xBC) ||
     (0xC4 ≤ offset.toNat && offset.toNat ≤ 0xF0) ||
     (offset.toNat == 0xC0 && !dlab))

/-- An operation is well formed. -/
def Instr.wellFormed : Instr → Bool
  | .rsvdRd dlab offset => reservedOffset dlab offset
  | .rsvdWr dlab offset _ => reservedOffset dlab offset
  | .rdRbr | .wrThr _ | .rdScr | .wrScr _ => true
  | .rdDll | .wrDll _ | .rdDlh | .wrDlh _ | .wrLcr _ | .rdLcr | .rdDlf | .wrDlf _ => true
  | .rdIer | .wrIer _ | .rdIir | .wrFcr _ | .rdMcr | .wrMcr _ => true
  | .rdLsr | .rdUsr | .rdMsr | .rdTfl | .rdRfl | .rdCpr | .rdUcv | .rdCtr => true
  | .wrLsr _ | .wrMsr _ | .wrUsr _ | .wrTfl _ | .wrRfl _ | .wrCpr _ | .wrUcv _ | .wrCtr _ => true
  | .txTake | .txDone | .rxStart | .rxChar _ _ _ _ | .modemChange _ | .reset => true

end Sys2Proof
end

