-- ==== Sys2Proof/Decode.lean ====
section
/-! DEFINITION. The decoder, total on every encoding, and the encoder, written from the tables of
30_encoding.md (R60 to R63, R77, R80). -/

namespace Sys2Proof

/-- An operation as encoded (30_encoding.md R60): a bus operation is its 10-bit decode key and
`wdata`; an event is its 3-bit code and its operand bits. -/
inductive Encoded where
  | bus (key : BitVec 10) (wdata : Word)
  | event (ev : BitVec 3) (operands : BitVec 11)
  deriving DecidableEq, Repr

/-- Why an encoding is no operation. -/
inductive DecodeError where
  /-- The offset of the key is no multiple of 4 (20_memory.md R42; 95_test_vectors.md V-D25). -/
  | misaligned
  /-- The code is 6 or 7 ("no event", 30_encoding.md R80), or an operand bit stands that the event
  does not have (DESIGN CHOICE, safe: log 7). -/
  | noSuchEvent
  deriving DecidableEq, Repr

/-- The decode key of R60: `K[9] = wr`, `K[8] = dlab`, `K[7:0] = offset`. -/
def keyOf (wr dlab : Bool) (offset : Byte) : BitVec 10 :=
  ((BitVec.ofBool wr).setWidth 10 <<< 9) ||| ((BitVec.ofBool dlab).setWidth 10 <<< 8) |||
    offset.setWidth 10

/-- `K[9]`. -/
def keyWr (key : BitVec 10) : Bool := key.getLsbD 9

/-- `K[8]`. -/
def keyDlab (key : BitVec 10) : Bool := key.getLsbD 8

/-- `K[7:0]`. -/
def keyOffset (key : BitVec 10) : Byte := key.extractLsb' 0 8

/-- A row of the decode table of R63: a key `k` matches when `(k & mask) = pat`. -/
structure BusRow where
  pat : BitVec 10
  mask : BitVec 10
  build : Word → Instr

/-- `(K & mask) = match` of R63. -/
def BusRow.hits (row : BusRow) (key : BitVec 10) : Bool := key &&& row.mask == row.pat

/-- The 34 rows of R63 that are no fallback, in its order: columns `match` and `mask`. -/
def busTable : List BusRow :=
  [ ⟨0x000, 0x3FF, fun _ => .rdRbr⟩,
    ⟨0x200, 0x3FF, .wrThr⟩,
    ⟨0x01C, 0x2FF, fun _ => .rdScr⟩,
    ⟨0x21C, 0x2FF, .wrScr⟩,
    ⟨0x100, 0x3FF, fun _ => .rdDll⟩,
    ⟨0x300, 0x3FF, .wrDll⟩,
    ⟨0x104, 0x3FF, fun _ => .rdDlh⟩,
    ⟨0x304, 0x3FF, .wrDlh⟩,
    ⟨0x20C, 0x2FF, .wrLcr⟩,
    ⟨0x00C, 0x2FF, fun _ => .rdLcr⟩,
    ⟨0x1C0, 0x3FF, fun _ => .rdDlf⟩,
    ⟨0x3C0, 0x3FF, .wrDlf⟩,
    ⟨0x004, 0x3FF, fun _ => .rdIer⟩,
    ⟨0x204, 0x3FF, .wrIer⟩,
    ⟨0x008, 0x2FF, fun _ => .rdIir⟩,
    ⟨0x208, 0x2FF, .wrFcr⟩,
    ⟨0x010, 0x2FF, fun _ => .rdMcr⟩ ] ++
  [ ⟨0x210, 0x2FF, .wrMcr⟩,
    ⟨0x014, 0x2FF, fun _ => .rdLsr⟩,
    ⟨0x07C, 0x2FF, fun _ => .rdUsr⟩,
    ⟨0x018, 0x2FF, fun _ => .rdMsr⟩,
    ⟨0x080, 0x2FF, fun _ => .rdTfl⟩,
    ⟨0x084, 0x2FF, fun _ => .rdRfl⟩,
    ⟨0x0F4, 0x2FF, fun _ => .rdCpr⟩,
    ⟨0x0F8, 0x2FF, fun _ => .rdUcv⟩,
    ⟨0x0FC, 0x2FF, fun _ => .rdCtr⟩,
    ⟨0x214, 0x2FF, .wrLsr⟩,
    ⟨0x218, 0x2FF, .wrMsr⟩,
    ⟨0x27C, 0x2FF, .wrUsr⟩,
    ⟨0x280, 0x2FF, .wrTfl⟩,
    ⟨0x284, 0x2FF, .wrRfl⟩,
    ⟨0x2F4, 0x2FF, .wrCpr⟩,
    ⟨0x2F8, 0x2FF, .wrUcv⟩,
    ⟨0x2FC, 0x2FF, .wrCtr⟩ ]

/-- The fallback rows of R63: "If none matches, perform RSVD_RD (when K[9] = 0) or RSVD_WR". -/
def fallback (key : BitVec 10) (wdata : Word) : Instr :=
  if keyWr key then .rsvdWr (keyDlab key) (keyOffset key) wdata
  else .rsvdRd (keyDlab key) (keyOffset key)

/-- Decoding a bus operation (R63). -/
def decodeBus (key : BitVec 10) (wdata : Word) : Except DecodeError Instr :=
  if (keyOffset key).toNat % 4 ≠ 0 then .error .misaligned
  else
    match busTable.find? (fun row => row.hits key) with
    | some row => .ok (row.build wdata)
    | none => .ok (fallback key wdata)

/-- Decoding an event (R80). Operand bits: RX_CHAR has `byte` in bits 7:0, `pe`, `fe`, `bi` in
bits 8, 9, 10; MODEM_CHANGE has `lines` in bits 3:0 (DESIGN CHOICE, safe: log 7). -/
def decodeEvent (ev : BitVec 3) (operands : BitVec 11) : Except DecodeError Instr :=
  match ev.toNat with
  | 0 => if operands = 0 then .ok .txTake else .error .noSuchEvent
  | 1 => if operands = 0 then .ok .txDone else .error .noSuchEvent
  | 2 => if operands = 0 then .ok .rxStart else .error .noSuchEvent
  | 3 => .ok (.rxChar (operands.extractLsb' 0 8) (operands.getLsbD 8) (operands.getLsbD 9)
      (operands.getLsbD 10))
  | 4 => if operands.extractLsb' 4 7 = 0 then .ok (.modemChange (operands.extractLsb' 0 4))
      else .error .noSuchEvent
  | 5 => if operands = 0 then .ok .reset else .error .noSuchEvent
  | _ => .error .noSuchEvent

/-- The decoder. -/
def decode : Encoded → Except DecodeError Instr
  | .bus key wdata => decodeBus key wdata
  | .event ev operands => decodeEvent ev operands

/-- The operand bits of RX_CHAR (log 7). -/
def rxCharOperands (byte : Byte) (pe fe bi : Bool) : BitVec 11 :=
  byte.setWidth 11 ||| ((BitVec.ofBool pe).setWidth 11 <<< 8) |||
    ((BitVec.ofBool fe).setWidth 11 <<< 9) ||| ((BitVec.ofBool bi).setWidth 11 <<< 10)

/-- The encoder, from the columns `wr`, `dlab` and `offset` of R63. `dlab` is the window for the
operations whose row holds for either value of DLAB; `K[8]` is no choice of the host
(30_encoding.md R60). -/
def encodeAt (dlab : Bool) : Instr → Encoded
  | .rdRbr => .bus (keyOf false false 0x00) 0
  | .wrThr w => .bus (keyOf true false 0x00) w
  | .rdScr => .bus (keyOf false dlab 0x1C) 0
  | .wrScr w => .bus (keyOf true dlab 0x1C) w
  | .rdDll => .bus (keyOf false true 0x00) 0
  | .wrDll w => .bus (keyOf true true 0x00) w
  | .rdDlh => .bus (keyOf false true 0x04) 0
  | .wrDlh w => .bus (keyOf true true 0x04) w
  | .wrLcr w => .bus (keyOf true dlab 0x0C) w
  | .rdLcr => .bus (keyOf false dlab 0x0C) 0
  | .rdDlf => .bus (keyOf false true 0xC0) 0
  | .wrDlf w => .bus (keyOf true true 0xC0) w
  | .rdIer => .bus (keyOf false false 0x04) 0
  | .wrIer w => .bus (keyOf true false 0x04) w
  | .rdIir => .bus (keyOf false dlab 0x08) 0
  | .wrFcr w => .bus (keyOf true dlab 0x08) w
  | .rdMcr => .bus (keyOf false dlab 0x10) 0
  | .wrMcr w => .bus (keyOf true dlab 0x10) w
  | .rdLsr => .bus (keyOf false dlab 0x14) 0
  | .rdUsr => .bus (keyOf false dlab 0x7C) 0
  | .rdMsr => .bus (keyOf false dlab 0x18) 0
  | .rdTfl => .bus (keyOf false dlab 0x80) 0
  | .rdRfl => .bus (keyOf false dlab 0x84) 0
  | .rdCpr => .bus (keyOf false dlab 0xF4) 0
  | .rdUcv => .bus (keyOf false dlab 0xF8) 0
  | .rdCtr => .bus (keyOf false dlab 0xFC) 0
  | .wrLsr w => .bus (keyOf true dlab 0x14) w
  | .wrMsr w => .bus (keyOf true dlab 0x18) w
  | .wrUsr w => .bus (keyOf true dlab 0x7C) w
  | .wrTfl w => .bus (keyOf true dlab 0x80) w
  | .wrRfl w => .bus (keyOf true dlab 0x84) w
  | .wrCpr w => .bus (keyOf true dlab 0xF4) w
  | .wrUcv w => .bus (keyOf true dlab 0xF8) w
  | .wrCtr w => .bus (keyOf true dlab 0xFC) w
  | .rsvdRd d o => .bus (keyOf false d o) 0
  | .rsvdWr d o w => .bus (keyOf true d o) w
  | .txTake => .event 0 0
  | .txDone => .event 1 0
  | .rxStart => .event 2 0
  | .rxChar b pe fe bi => .event 3 (rxCharOperands b pe fe bi)
  | .modemChange lines => .event 4 (lines.setWidth 11)
  | .reset => .event 5 0

/-- The words of an operation, in the normal window where the row holds for either. -/
def encode (i : Instr) : Encoded := encodeAt false i

/-- The window an encoding was made in. -/
def Encoded.dlab : Encoded → Bool
  | .bus key _ => keyDlab key
  | .event _ _ => false

/-- An encoding without the bits that its operation does not have: `wdata` is ignored on a read
(20_memory.md R41). -/
def Encoded.canonical : Encoded → Encoded
  | .bus key wdata => .bus key (if keyWr key then wdata else 0)
  | .event ev operands => .event ev operands

/-- A whole operation as one number, numbered as spec/opcode_table.json numbers its bits. With at
most 8 bits it is an event: the code in bits 2:0, bits 7:3 zero, the operand bits in 18:8.
Otherwise it is a bus operation: the key in bits 9:0, bits 15:10 zero, `wdata` in bits 47:16
(DESIGN CHOICE, safe: log 8). -/
def wordLayout (nbits w : Nat) : Option Encoded :=
  if nbits ≤ 8 then
    if w % 256 < 8 then some (.event (BitVec.ofNat 3 w) (BitVec.ofNat 11 (w / 256))) else none
  else
    if w % 65536 < 1024 then some (.bus (BitVec.ofNat 10 w) (BitVec.ofNat 32 (w / 65536))) else none

/-- The operation the decoder reads from a table word; `none` where it refuses. -/
def decodeTableWord (nbits w : Nat) : Option Instr :=
  match wordLayout nbits w with
  | none => none
  | some e =>
    match decode e with
    | .ok i => some i
    | .error _ => none

end Sys2Proof
end

