-- ==== Sys2Proof/Config.lean ====
section
/-! DEFINITION. What one chip fixes (00_scope.md R5) and the free values `draw(N)` (00_scope.md R7).
Nothing here has a value that Lean can evaluate: the spec leaves each of them open. -/

namespace Sys2Proof

/-- The parameters that the spec leaves OPEN (00_scope.md R5; 92_eei_decisions.md D7, D9, D27).
They are fixed for one chip; a state carries them because the step takes nothing but a state
(DESIGN CHOICE, safe: log 4). -/
structure Params where
  /-- FIFO_DEPTH less one: the depth is a natural number, at least 1 (R5). -/
  depthLess1 : Nat
  /-- BUSY_ON_RX_DATA (R5, D9). -/
  busyOnRxData : Bool
  /-- CPR_VALUE (R5, D27). -/
  cprValue : Word
  /-- UCV_VALUE (R5, D27). -/
  ucvValue : Word
  /-- CTR_VALUE (R5, D27). -/
  ctrValue : Word
  /-- BASE, the platform's base address of the block (00_scope.md R7). -/
  base : Nat
  deriving DecidableEq, Repr, Inhabited

/-- FIFO_DEPTH (R5). -/
def Params.fifoDepth (p : Params) : Nat := p.depthLess1 + 1

/-- The parameters of the chip at hand: open, so no proof can see them (DESIGN CHOICE, safe: log 4). -/
opaque Config.chip : Params

/-- `draw(N)` of 00_scope.md R7, "an unconstrained N-bit value chosen anew at each use": the value
drawn by the use numbered `use`. It has no body, so nothing can be proved of it (DESIGN CHOICE, safe: log 3). -/
opaque Config.draw (width use : Nat) : BitVec width

end Sys2Proof
end

