-- ==== Sys2Proof/Machine/State.lean ====
section
/-! DEFINITION. The state of the block (10_state.md R12 to R30), why a step can stop, and the state
after reset (70_reset_and_hazards.md R220). -/

namespace Sys2Proof.Machine

/-- The device state record of 10_state.md R30, the chip's parameters, and the model's own fields
`replies`, `inbox` and `draws`. -/
structure State where
  /-- The OPEN parameters of 00_scope.md R5; no step changes them (log 4). -/
  params : Params
  /-- Line Control (R12). -/
  lcr : Byte
  /-- Low divisor byte (R13). -/
  dll : Byte
  /-- High divisor byte (R13). -/
  dlh : Byte
  /-- Fractional divisor latch (R14). -/
  dlf : BitVec 4
  /-- Interrupt enable (R15). -/
  ier : Byte
  /-- FIFO Control: FIFO enable (R16). -/
  fifoe : Bool
  /-- FIFO Control: DMA mode (R16). -/
  dmam : Bool
  /-- FIFO Control: transmit empty trigger level (R16). -/
  tet : BitVec 2
  /-- FIFO Control: receive trigger level (R16). -/
  rt : BitVec 2
  /-- Modem Control (R17). -/
  mcr : BitVec 7
  /-- Scratch (R18). -/
  scr : Byte
  /-- Transmit FIFO, the oldest byte first (R19). -/
  txFifo : List Byte
  /-- Transmit shift stage (R20). -/
  txShift : Option Byte
  /-- Receive FIFO, the oldest byte first (R21). -/
  rxFifo : List Byte
  /-- A character is being assembled (R22). -/
  rxActive : Bool
  /-- Sticky overrun latch (R23). -/
  oe : Bool
  /-- Sticky parity latch (R23). -/
  pe : Bool
  /-- Sticky framing latch (R23). -/
  fe : Bool
  /-- Sticky break latch (R23). -/
  bi : Bool
  /-- Level of the modem inputs: CTS, DSR, RI, DCD from bit 0 (R27). -/
  msrIn : BitVec 4
  /-- Changed-since-last-read latches, same order (R27). -/
  msrDelta : BitVec 4
  /-- Ghost of the spec: every byte sent, with the break-control bit at that moment (R29). -/
  txLog : List (Byte × Bool)
  /-- The model's own: the `rdata` of every bus read so far, oldest first (20_memory.md R41;
  DESIGN CHOICE, safe: log 2). -/
  replies : List Word
  /-- The model's own: the inputs still to come (10_state.md R10; DESIGN CHOICE, safe: log 1). -/
  inbox : List Input
  /-- The model's own: how many free values have been drawn (00_scope.md R7; DESIGN CHOICE, safe:
  log 3). -/
  draws : Nat
  deriving DecidableEq, Repr

/-- Why the machine stops with a fault. -/
inductive Fault where
  /-- An event was delivered where its precondition fails; raised by the meanings of TX_TAKE,
  TX_DONE, RX_START and RX_CHAR. The spec has no step there (44_line_events.md R161 to R164,
  95_test_vectors.md V-D121). Safe: the model stops where the spec has no behaviour (log 6). -/
  | eventNotEnabled
  deriving DecidableEq, Repr

/-- Why a step is refused: the closed list of 60_exceptions.md R202, and two of the model. -/
inductive Refusal where
  /-- The host-fixed name for an operation without a meaning. No arm of `exec` uses it. Safe. -/
  | notModelled (mnemonic : String)
  /-- `bad_access`: raised where an input is fetched, for an access that is not 4 bytes wide,
  aligned and inside the block (20_memory.md R42). Safe. -/
  | badAccess
  /-- `reserved_offset`: raised by RSVD_RD and RSVD_WR (30_encoding.md R77). Safe. -/
  | reservedOffset
  /-- `busy_write`: raised by WR_LCR, WR_DLL, WR_DLH and WR_DLF while BUSY = 1
  (41_divisor_config.md R108). Safe. -/
  | busyWrite
  /-- `ptime_unmodelled`: raised by WR_IER with bit 7 set (42_fifo_modem_control.md R123). Safe. -/
  | ptimeUnmodelled
  /-- `modem_mode_unmodelled`: raised by WR_MCR with bit 4, 5 or 6 set
  (42_fifo_modem_control.md R126). Safe. -/
  | modemModeUnmodelled
  /-- Raised where an input is fetched: the event code is 6 or 7, "no event" (30_encoding.md R80),
  or an operand bit stands that the event does not have (log 7). Safe. -/
  | noSuchEvent
  deriving DecidableEq, Repr

/-- The state right after RESET (70_reset_and_hazards.md R220; the spec's decision D22). `msrIn` is
the first free value ("unspecified: follows the pins", log 11). The parameters are the chip's
(log 4); no input is pending, nothing has been read, one value has been drawn (logs 1, 2, 3). -/
def State.reset : State where
  params := Config.chip
  lcr := 0x00
  dll := 0x00
  dlh := 0x00
  dlf := 0x0
  ier := 0x00
  fifoe := false
  dmam := false
  tet := 0
  rt := 0
  mcr := 0x00
  scr := 0x00
  txFifo := []
  txShift := none
  rxFifo := []
  rxActive := false
  oe := false
  pe := false
  fe := false
  bi := false
  msrIn := Config.draw 4 0
  msrDelta := 0
  txLog := []
  replies := []
  inbox := []
  draws := 1

end Sys2Proof.Machine
end

