-- ==== Sys2Proof/Machine/Flags.lean ====
section
/-! DEFINITION. Capacities, derived flags, the configuration state, the configuration outputs, the
field layouts of the flag registers with their composition and decomposition, the readiness
predicates of the host, and the receive-error classification. -/

namespace Sys2Proof.Machine

/-! ### Derived state (00_scope.md R6; 10_state.md R11, R24 to R28) -/

/-- TXCAP (00_scope.md R6). -/
def txCap (s : State) : Nat := if s.fifoe then s.params.fifoDepth else 1

/-- RXCAP (00_scope.md R6). -/
def rxCap (s : State) : Nat := if s.fifoe then s.params.fifoDepth else 1

/-- DLAB, `x[lcr][7]` (10_state.md R11). -/
def dlab (s : State) : Bool := s.lcr.getLsbD 7

/-- The two configuration states (10_state.md R11, 41_divisor_config.md R110). -/
inductive LineMode where
  | normal
  | divisor
  deriving DecidableEq, Repr

/-- `cfg` (10_state.md R11). -/
def lineMode (s : State) : LineMode := if dlab s then .divisor else .normal

/-- DR (R24), the same predicate as RFNE (R26). -/
def dr (s : State) : Bool := decide (0 < s.rxFifo.length)

/-- THRE (R25). -/
def thre (s : State) : Bool := decide (s.txFifo.length = 0)

/-- TEMT (R25). -/
def temt (s : State) : Bool := decide (s.txFifo.length = 0) && s.txShift.isNone

/-- TFNF (R26). -/
def tfnf (s : State) : Bool := decide (s.txFifo.length < txCap s)

/-- TFE (R26). -/
def tfe (s : State) : Bool := decide (s.txFifo.length = 0)

/-- RFNE (R26). -/
def rfne (s : State) : Bool := decide (0 < s.rxFifo.length)

/-- RFF (R26). -/
def rff (s : State) : Bool := decide (s.rxFifo.length = rxCap s)

/-- BUSY (R26). -/
def busy (s : State) : Bool :=
  decide (0 < s.txFifo.length) || s.txShift.isSome || s.rxActive ||
    (decide (0 < s.rxFifo.length) && s.params.busyOnRxData)

/-- TFL (R28). -/
def txLevel (s : State) : Nat := s.txFifo.length

/-- RFL (R28). -/
def rxLevel (s : State) : Nat := s.rxFifo.length

/-! ### Configuration outputs and divisor (41_divisor_config.md R111, R112; 44_line_events.md R170) -/

/-- What the block presents to the serial side (R112). -/
structure Outputs where
  divisorInt : BitVec 16
  divisorFrac : BitVec 4
  frame : BitVec 7
  fifoEnable : Bool
  modem : BitVec 4
  deriving DecidableEq, Repr

/-- `D`, the two latches put together, the high byte above (R111 a). -/
def divisorInt (s : State) : BitVec 16 := s.dlh ++ s.dll

/-- The outputs of R112, combinational from the stored state. -/
def outputs (s : State) : Outputs where
  divisorInt := divisorInt s
  divisorFrac := s.dlf
  frame := s.lcr.extractLsb' 0 7
  fifoEnable := s.fifoe
  modem := s.mcr.extractLsb' 0 4

/-- The effective divisor `D + dlf/16`, counted in sixteenths (R111 c). -/
def divisorSixteenths (s : State) : Nat := 16 * (divisorInt s).toNat + s.dlf.toNat

/-- The baud rate produced from a serial clock, `serial_clock / (16 × (D + dlf/16))` (R111 c);
`none` when no baud rate is programmed (R111 d). -/
def baudRate (serialClock : Nat) (s : State) : Option ℚ :=
  if divisorSixteenths s = 0 then none else some (serialClock / divisorSixteenths s)

/-! ### Field layouts (30_encoding.md R64 to R71) and their two directions (R81) -/

/-- `v` placed with its lowest bit at bit `lo` of a byte. -/
def placeAt {n : Nat} (lo : Nat) (v : BitVec n) : Byte := v.setWidth 8 <<< lo

/-- One flag placed at bit `i` of a byte. -/
def flagAt (i : Nat) (b : Bool) : Byte := placeAt i (BitVec.ofBool b)

/-- IER fields (R64). -/
structure IerFields where
  erbfi : Bool
  etbei : Bool
  elsi : Bool
  edssi : Bool
  ptime : Bool
  deriving DecidableEq, Repr

/-- LCR fields (R66). -/
structure LcrFields where
  dls : BitVec 2
  stop : Bool
  pen : Bool
  eps : Bool
  sp : Bool
  bc : Bool
  dlab : Bool
  deriving DecidableEq, Repr

/-- MCR fields (R67). -/
structure McrFields where
  dtr : Bool
  rts : Bool
  out1 : Bool
  out2 : Bool
  lb : Bool
  afce : Bool
  sire : Bool
  deriving DecidableEq, Repr

/-- LSR fields (R68); bit 7 is not named. -/
structure LsrFields where
  dr : Bool
  oe : Bool
  pe : Bool
  fe : Bool
  bi : Bool
  thre : Bool
  temt : Bool
  deriving DecidableEq, Repr

/-- MSR fields (R69). -/
structure MsrFields where
  dcts : Bool
  ddsr : Bool
  teri : Bool
  ddcd : Bool
  cts : Bool
  dsr : Bool
  ri : Bool
  dcd : Bool
  deriving DecidableEq, Repr

/-- USR fields (R70). -/
structure UsrFields where
  busy : Bool
  tfnf : Bool
  tfe : Bool
  rfne : Bool
  rff : Bool
  deriving DecidableEq, Repr

/-- FCR fields (R71). -/
structure FcrFields where
  fifoe : Bool
  rfifor : Bool
  xfifor : Bool
  dmam : Bool
  tet : BitVec 2
  rt : BitVec 2
  deriving DecidableEq, Repr

def decomposeIer (v : Byte) : IerFields :=
  ⟨v.getLsbD 0, v.getLsbD 1, v.getLsbD 2, v.getLsbD 3, v.getLsbD 7⟩

def composeIer (f : IerFields) : Byte :=
  flagAt 0 f.erbfi ||| flagAt 1 f.etbei ||| flagAt 2 f.elsi ||| flagAt 3 f.edssi ||| flagAt 7 f.ptime

def decomposeLcr (v : Byte) : LcrFields :=
  ⟨v.extractLsb' 0 2, v.getLsbD 2, v.getLsbD 3, v.getLsbD 4, v.getLsbD 5, v.getLsbD 6, v.getLsbD 7⟩

def composeLcr (f : LcrFields) : Byte :=
  placeAt 0 f.dls ||| flagAt 2 f.stop ||| flagAt 3 f.pen ||| flagAt 4 f.eps ||| flagAt 5 f.sp |||
    flagAt 6 f.bc ||| flagAt 7 f.dlab

def decomposeMcr (v : Byte) : McrFields :=
  ⟨v.getLsbD 0, v.getLsbD 1, v.getLsbD 2, v.getLsbD 3, v.getLsbD 4, v.getLsbD 5, v.getLsbD 6⟩

def composeMcr (f : McrFields) : Byte :=
  flagAt 0 f.dtr ||| flagAt 1 f.rts ||| flagAt 2 f.out1 ||| flagAt 3 f.out2 ||| flagAt 4 f.lb |||
    flagAt 5 f.afce ||| flagAt 6 f.sire

def decomposeLsr (v : Byte) : LsrFields :=
  ⟨v.getLsbD 0, v.getLsbD 1, v.getLsbD 2, v.getLsbD 3, v.getLsbD 4, v.getLsbD 5, v.getLsbD 6⟩

def composeLsr (f : LsrFields) : Byte :=
  flagAt 0 f.dr ||| flagAt 1 f.oe ||| flagAt 2 f.pe ||| flagAt 3 f.fe ||| flagAt 4 f.bi |||
    flagAt 5 f.thre ||| flagAt 6 f.temt

def decomposeMsr (v : Byte) : MsrFields :=
  ⟨v.getLsbD 0, v.getLsbD 1, v.getLsbD 2, v.getLsbD 3, v.getLsbD 4, v.getLsbD 5, v.getLsbD 6,
    v.getLsbD 7⟩

def composeMsr (f : MsrFields) : Byte :=
  flagAt 0 f.dcts ||| flagAt 1 f.ddsr ||| flagAt 2 f.teri ||| flagAt 3 f.ddcd ||| flagAt 4 f.cts |||
    flagAt 5 f.dsr ||| flagAt 6 f.ri ||| flagAt 7 f.dcd

def decomposeUsr (v : Byte) : UsrFields :=
  ⟨v.getLsbD 0, v.getLsbD 1, v.getLsbD 2, v.getLsbD 3, v.getLsbD 4⟩

def composeUsr (f : UsrFields) : Byte :=
  flagAt 0 f.busy ||| flagAt 1 f.tfnf ||| flagAt 2 f.tfe ||| flagAt 3 f.rfne ||| flagAt 4 f.rff

def decomposeFcr (v : Byte) : FcrFields :=
  ⟨v.getLsbD 0, v.getLsbD 1, v.getLsbD 2, v.getLsbD 3, v.extractLsb' 4 2, v.extractLsb' 6 2⟩

def composeFcr (f : FcrFields) : Byte :=
  flagAt 0 f.fifoe ||| flagAt 1 f.rfifor ||| flagAt 2 f.xfifor ||| flagAt 3 f.dmam |||
    placeAt 4 f.tet ||| placeAt 6 f.rt

/-- The flag registers of R81. -/
inductive FlagReg where
  | ier
  | lcr
  | mcr
  | lsr
  | msr
  | usr
  | fcr
  deriving DecidableEq, Repr

/-- `defined_mask(reg)` (R81), with Line Status bit 7 unnamed. -/
def definedMask : FlagReg → Byte
  | .ier => 0x8F
  | .lcr => 0xFF
  | .mcr => 0x7F
  | .lsr => 0x7F
  | .msr => 0xFF
  | .usr => 0x1F
  | .fcr => 0xFF

/-- `compose(decompose(v))` (R81). -/
def recompose (reg : FlagReg) (v : Byte) : Byte :=
  match reg with
  | .ier => composeIer (decomposeIer v)
  | .lcr => composeLcr (decomposeLcr v)
  | .mcr => composeMcr (decomposeMcr v)
  | .lsr => composeLsr (decomposeLsr v)
  | .msr => composeMsr (decomposeMsr v)
  | .usr => composeUsr (decomposeUsr v)
  | .fcr => composeFcr (decomposeFcr v)

/-- Membership test for the bits of a mask (R81). -/
def hasFlags (v mask : Byte) : Bool := v &&& mask == mask

/-- Bitwise union (R81). -/
def withFlags (v mask : Byte) : Byte := v ||| mask

/-- Bitwise difference (R81). -/
def withoutFlags (v mask : Byte) : Byte := v &&& ~~~mask

/-! ### Register values -/

/-- `LSRVAL` (43_status.md R141), `bit7` being the free bit. -/
def lsrValue (s : State) (bit7 : Bool) : Byte :=
  composeLsr ⟨dr s, s.oe, s.pe, s.fe, s.bi, thre s, temt s⟩ ||| flagAt 7 bit7

/-- The UART Status value (43_status.md R142). -/
def usrValue (s : State) : Byte := composeUsr ⟨busy s, tfnf s, tfe s, rfne s, rff s⟩

/-- The Modem Status value: inputs in bits 7:4, deltas in bits 3:0 (43_status.md R143). -/
def msrValue (s : State) : Byte := s.msrIn ++ s.msrDelta

/-! ### Readiness predicates over one read value (43_status.md R150) -/

def txFifoFull (usr : Word) : Bool := !usr.getLsbD 1
def txReady (usr : Word) : Bool := usr.getLsbD 1
def rxFifoEmpty (usr : Word) : Bool := !usr.getLsbD 3
def isBusy (usr : Word) : Bool := usr.getLsbD 0
def txDrained (lsr : Word) : Bool := lsr.getLsbD 6
def txFifoEmpty (lsr : Word) : Bool := lsr.getLsbD 5
def dataReady (lsr : Word) : Bool := lsr.getLsbD 0

/-! ### Receive-error classification (60_exceptions.md R203) -/

/-- The classes of `rx_class`. -/
inductive RxClass where
  | breakError
  | framingError
  | parityError
  | overrunError
  | noData
  | data
  deriving DecidableEq, Repr

/-- `rx_class`: Break, Framing, Parity, Overrun, then Data-Ready (60_exceptions.md R203). -/
def rxClass (lsr : Byte) : RxClass :=
  if lsr.getLsbD 4 then .breakError
  else if lsr.getLsbD 3 then .framingError
  else if lsr.getLsbD 2 then .parityError
  else if lsr.getLsbD 1 then .overrunError
  else if lsr.getLsbD 0 then .data
  else .noData

/-! ### Event preconditions (44_line_events.md R161 to R164) -/

/-- TX_TAKE is enabled (R161). -/
def txTakeEnabled (s : State) : Bool := decide (0 < s.txFifo.length) && s.txShift.isNone

/-- TX_DONE is enabled (R162). -/
def txDoneEnabled (s : State) : Bool := s.txShift.isSome

/-- RX_START is enabled (R163). -/
def rxStartEnabled (s : State) : Bool := !s.rxActive

/-- RX_CHAR is enabled (R164). -/
def rxCharEnabled (s : State) : Bool := s.rxActive

end Sys2Proof.Machine
end

