-- ==== Sys2Proof/Machine/Operands.lean ====
section
/-! DEFINITION. Operands and results of the bus operations (30_encoding.md R76): a write operand is
a slice of `wdata`, a read result is a field filled up with zeros. -/

namespace Sys2Proof.Machine

/-- `wdata[7:0]` (30_encoding.md R72, R76 a). -/
def byteOperand (wdata : Word) : Byte := wdata.extractLsb' 0 8

/-- `wdata[3:0]`, the operand of WR_DLF (30_encoding.md R73). -/
def fracOperand (wdata : Word) : BitVec 4 := wdata.extractLsb' 0 4

/-- `wdata[6:0]`, the operand of WR_MCR (42_fifo_modem_control.md R126). -/
def modemOperand (wdata : Word) : BitVec 7 := wdata.extractLsb' 0 7

/-- `zext_32` of a field (30_encoding.md R76 b; 20_memory.md R44). -/
def zext32 {n : Nat} (v : BitVec n) : Word := v.setWidth 32

/-- A FIFO level as a read result (30_encoding.md R74). A level of 2^32 or more would lose its
upper bits (DEDUCED, unsafe for such a depth: log 5). -/
def levelWord (level : Nat) : Word := BitVec.ofNat 32 level

end Sys2Proof.Machine
end

