-- ==== Sys2Proof/Machine/Ops.lean ====
section
/-! DEFINITION. The named operations over the state that the meanings share: answering a read, drawing a
free value, the two FIFOs, the error latches (the block's analogue of taking an exception and of
reporting it, 60_exceptions.md R206), the two guards, and fetching an input. -/

namespace Sys2Proof.Machine

/-! ### Answering a read, drawing a free value -/

/-- A bus read returns `v` to the host (20_memory.md R41). -/
def reply (v : Word) (s : State) : State := { s with replies := s.replies ++ [v] }

/-- The value that the next use of `draw(width)` gives (00_scope.md R7). -/
def drawn (width : Nat) (s : State) : BitVec width := Config.draw width s.draws

/-- One free value is used up, so that the next use is a new one. -/
def useDraw (s : State) : State := { s with draws := s.draws + 1 }

/-! ### Transmit side -/

/-- A byte is appended to the transmit FIFO when there is room, else lost (40_data_path.md R91). -/
def pushTx (b : Byte) (s : State) : State :=
  if s.txFifo.length < txCap s then { s with txFifo := s.txFifo ++ [b] } else s

/-- The head of the transmit FIFO moves into the shift stage (44_line_events.md R161). -/
def takeTx (s : State) : State := { s with txShift := s.txFifo.head?, txFifo := s.txFifo.tail }

/-- The byte in the shift stage has been sent; it is logged with the break-control bit
(44_line_events.md R162). -/
def finishTx (s : State) : State :=
  { s with
    txLog := s.txLog ++ s.txShift.toList.map (fun b => (b, s.lcr.getLsbD 6))
    txShift := none }

/-- The transmit FIFO is emptied; the shift stage is not (42_fifo_modem_control.md R122). -/
def emptyTx (s : State) : State := { s with txFifo := [] }

/-! ### Receive side -/

/-- The head of the receive FIFO is removed (40_data_path.md R90). -/
def popRx (s : State) : State := { s with rxFifo := s.rxFifo.tail }

/-- The receive FIFO is emptied; the latches and `rx_active` are not touched
(42_fifo_modem_control.md R122). -/
def emptyRx (s : State) : State := { s with rxFifo := [] }

/-- A character arrives: stored when there is room; else overrun, and with the FIFOs disabled the
buffer register is overwritten (44_line_events.md R164). -/
def storeRx (b : Byte) (s : State) : State :=
  if s.rxFifo.length < rxCap s then { s with rxFifo := s.rxFifo ++ [b] }
  else if s.fifoe then { s with oe := true }
  else { s with oe := true, rxFifo := [b] }

/-- The receive engine begins or ends a character (44_line_events.md R163, R164). -/
def setRxActive (b : Bool) (s : State) : State := { s with rxActive := b }

/-! ### Receive errors: latching and reporting (60_exceptions.md R201, R206) -/

/-- The error indications of a character are latched, never cleared (44_line_events.md R164). -/
def latchErrors (pe fe bi : Bool) (s : State) : State :=
  { s with pe := s.pe || pe, fe := s.fe || fe, bi := s.bi || bi }

/-- All four latches are cleared together: the clearing half of the report (43_status.md R140). -/
def clearErrors (s : State) : State := { s with oe := false, pe := false, fe := false, bi := false }

/-! ### Modem inputs -/

/-- The inputs take a new level; each that changed leaves its delta set (44_line_events.md R166). -/
def changeLines (lines : BitVec 4) (s : State) : State :=
  { s with msrDelta := s.msrDelta ||| (s.msrIn ^^^ lines), msrIn := lines }

/-- The deltas are cleared (43_status.md R143). -/
def clearDeltas (s : State) : State := { s with msrDelta := 0 }

/-! ### FIFO Control -/

/-- A write of FIFO Control (42_fifo_modem_control.md R122). -/
def writeFcr (f : FcrFields) (s : State) : State :=
  let s1 := if f.fifoe != s.fifoe then emptyRx (emptyTx s) else s
  let s2 := if f.rfifor then emptyRx s1 else s1
  let s3 := if f.xfifor then emptyTx s2 else s2
  { s3 with fifoe := f.fifoe, dmam := f.dmam, tet := f.tet, rt := f.rt }

/-! ### Guards -/

/-- The busy guard of the configuration writes (41_divisor_config.md R108). -/
def unlessBusy (s next : State) : Host.Outcome State Fault Refusal :=
  if busy s then .refused .busyWrite else .next next

/-- An event happens only where its precondition holds (44_line_events.md R160; log 6). -/
def whenEnabled (enabled : Bool) (next : State) : Host.Outcome State Fault Refusal :=
  if enabled then .next next else .fault .eventNotEnabled

/-- A write that changes nothing (43_status.md R149). -/
def ignoreWrite (_wdata : Word) (s : State) : Host.Outcome State Fault Refusal := .next s

/-! ### Reset -/

/-- The RESET event (70_reset_and_hazards.md R220): every element of R30 takes its reset value and
`msr_in` a new free value. The parameters and the model's own `inbox` and `replies` stay (log 12). -/
def resetBlock (s : State) : State :=
  { State.reset with
    params := s.params
    msrIn := drawn 4 s
    replies := s.replies
    inbox := s.inbox
    draws := s.draws + 1 }

/-! ### Fetching an input -/

/-- BLOCK_SIZE (00_scope.md R5). -/
def blockSize : Nat := 0x100

/-- The only access with a meaning is 4 bytes wide, aligned and inside the block
(20_memory.md R42). -/
def goodAccess (offset width : Nat) : Bool :=
  width == 4 && offset % 4 == 0 && decide (offset < blockSize)

/-- The encoding of an input: `K[8]` is taken from the device state (30_encoding.md R60). -/
def encodedInput (s : State) : Input → Except Refusal Encoded
  | .access wr offset width wdata =>
    if goodAccess offset width then .ok (.bus (keyOf wr (dlab s) (BitVec.ofNat 8 offset)) wdata)
    else .error .badAccess
  | .event ev operands => .ok (.event ev operands)

/-- The refusal that stands for a decode error. -/
def decodeRefusal : DecodeError → Refusal
  | .misaligned => .badAccess
  | .noSuchEvent => .noSuchEvent

/-- The operation an input stands for in a state (20_memory.md R41, R52; 30_encoding.md R61). -/
def nextInstr (s : State) (x : Input) : Except Refusal Instr :=
  match encodedInput s x with
  | .error r => .error r
  | .ok e =>
    match decode e with
    | .ok i => .ok i
    | .error d => .error (decodeRefusal d)

/-- A table word placed so that the next step runs it: as the head of `inbox`, with DLAB as `K[8]`
has it, since the decoder takes `K[8]` from the state (log 8). A number that is no table word is
placed as the unused event code 7. -/
def placeWord (s : State) (nbits w : Nat) : State :=
  match wordLayout nbits w with
  | some (.bus key wdata) =>
    { s with
      lcr := (s.lcr &&& 0x7F) ||| flagAt 7 (keyDlab key)
      inbox := .access (keyWr key) (keyOffset key).toNat 4 wdata :: s.inbox }
  | some (.event ev operands) => { s with inbox := .event ev operands :: s.inbox }
  | none => { s with inbox := .event 7 0 :: s.inbox }

/-- `MemRead(addr, n)` (00_scope.md R7, 20_memory.md R41): the access the block sees, `none` where
the address lies below BASE and so is not the block's. -/
def memRead (s : State) (addr n : Nat) : Option Input :=
  if s.params.base ≤ addr then some (.access false (addr - s.params.base) n 0) else none

/-- `MemWrite(addr, n, v)` (00_scope.md R7, 20_memory.md R41). -/
def memWrite (s : State) (addr n : Nat) (v : Word) : Option Input :=
  if s.params.base ≤ addr then some (.access true (addr - s.params.base) n v) else none

end Sys2Proof.Machine
end

