-- ==== Sys2Proof/Machine/Control.lean ====
section
/-! DEFINITION. Meanings of the control operations (42_fifo_modem_control.md R120 to R126). -/

namespace Sys2Proof.Machine

/-- RD_IER (42_fifo_modem_control.md R120). -/
def execRdIer (s : State) : Host.Outcome State Fault Refusal := .next (reply (zext32 s.ier) s)

/-- WR_IER (R123): bit 7 is refused, bits 6:4 are dropped. -/
def execWrIer (wdata : Word) (s : State) : Host.Outcome State Fault Refusal :=
  if (decomposeIer (byteOperand wdata)).ptime then .refused .ptimeUnmodelled
  else .next { s with ier := byteOperand wdata &&& 0x0F }

/-- RD_IIR (R121): any byte. -/
def execRdIir (s : State) : Host.Outcome State Fault Refusal :=
  .next (reply (zext32 (drawn 8 s)) (useDraw s))

/-- WR_FCR (R122). -/
def execWrFcr (wdata : Word) (s : State) : Host.Outcome State Fault Refusal :=
  .next (writeFcr (decomposeFcr (byteOperand wdata)) s)

/-- RD_MCR (R125). -/
def execRdMcr (s : State) : Host.Outcome State Fault Refusal := .next (reply (zext32 s.mcr) s)

/-- WR_MCR (R126): loopback, auto flow control and IrDA mode are refused, bit 7 is dropped. -/
def execWrMcr (wdata : Word) (s : State) : Host.Outcome State Fault Refusal :=
  if (decomposeMcr (byteOperand wdata)).lb || (decomposeMcr (byteOperand wdata)).afce ||
      (decomposeMcr (byteOperand wdata)).sire then .refused .modemModeUnmodelled
  else .next { s with mcr := modemOperand wdata }

end Sys2Proof.Machine
end

