-- ==== Sys2Proof/Machine/DataPath.lean ====
section
/-! DEFINITION. Meanings of the data-path operations (40_data_path.md R90 to R93). -/

namespace Sys2Proof.Machine

/-- RD_RBR (40_data_path.md R90): the oldest received byte, removed; with the FIFO empty, any byte
and no change. -/
def execRdRbr (s : State) : Host.Outcome State Fault Refusal :=
  match s.rxFifo with
  | b :: _ => .next (reply (zext32 b) (popRx s))
  | [] => .next (reply (zext32 (drawn 8 s)) (useDraw s))

/-- WR_THR (R91): a byte into the transmit FIFO; with the FIFO full it is lost. -/
def execWrThr (wdata : Word) (s : State) : Host.Outcome State Fault Refusal :=
  .next (pushTx (byteOperand wdata) s)

/-- RD_SCR (R92). -/
def execRdScr (s : State) : Host.Outcome State Fault Refusal := .next (reply (zext32 s.scr) s)

/-- WR_SCR (R93). -/
def execWrScr (wdata : Word) (s : State) : Host.Outcome State Fault Refusal :=
  .next { s with scr := byteOperand wdata }

end Sys2Proof.Machine
end

