-- ==== Sys2Proof/Machine/Events.lean ====
section
/-! DEFINITION. Meanings of the serial-side events (44_line_events.md R161 to R166) and of RESET
(70_reset_and_hazards.md R220). -/

namespace Sys2Proof.Machine

/-- TX_TAKE (44_line_events.md R161). -/
def execTxTake (s : State) : Host.Outcome State Fault Refusal :=
  whenEnabled (txTakeEnabled s) (takeTx s)

/-- TX_DONE (R162). -/
def execTxDone (s : State) : Host.Outcome State Fault Refusal :=
  whenEnabled (txDoneEnabled s) (finishTx s)

/-- RX_START (R163). -/
def execRxStart (s : State) : Host.Outcome State Fault Refusal :=
  whenEnabled (rxStartEnabled s) (setRxActive true s)

/-- RX_CHAR (R164): the flags are latched and the character stored, or lost by overrun. -/
def execRxChar (byte : Byte) (pe fe bi : Bool) (s : State) : Host.Outcome State Fault Refusal :=
  whenEnabled (rxCharEnabled s) (storeRx byte (latchErrors pe fe bi (setRxActive false s)))

/-- MODEM_CHANGE (R166). -/
def execModemChange (lines : BitVec 4) (s : State) : Host.Outcome State Fault Refusal :=
  .next (changeLines lines s)

/-- RESET (70_reset_and_hazards.md R220). -/
def execReset (s : State) : Host.Outcome State Fault Refusal := .next (resetBlock s)

end Sys2Proof.Machine
end

