-- ==== Sys2Proof/Machine/LineConfig.lean ====
section
/-! DEFINITION. Meanings of the line-configuration operations (41_divisor_config.md R100 to R109). -/

namespace Sys2Proof.Machine

/-- RD_DLL (41_divisor_config.md R100). -/
def execRdDll (s : State) : Host.Outcome State Fault Refusal := .next (reply (zext32 s.dll) s)

/-- WR_DLL (R101), under the busy guard (R108). -/
def execWrDll (wdata : Word) (s : State) : Host.Outcome State Fault Refusal :=
  unlessBusy s { s with dll := byteOperand wdata }

/-- RD_DLH (R102). -/
def execRdDlh (s : State) : Host.Outcome State Fault Refusal := .next (reply (zext32 s.dlh) s)

/-- WR_DLH (R103), under the busy guard (R108). -/
def execWrDlh (wdata : Word) (s : State) : Host.Outcome State Fault Refusal :=
  unlessBusy s { s with dlh := byteOperand wdata }

/-- WR_LCR (R104), under the busy guard (R108): all eight bits in one step. -/
def execWrLcr (wdata : Word) (s : State) : Host.Outcome State Fault Refusal :=
  unlessBusy s { s with lcr := byteOperand wdata }

/-- RD_LCR (R105). -/
def execRdLcr (s : State) : Host.Outcome State Fault Refusal := .next (reply (zext32 s.lcr) s)

/-- RD_DLF (R106); the decoder reaches it only in the divisor window (R109). -/
def execRdDlf (s : State) : Host.Outcome State Fault Refusal := .next (reply (zext32 s.dlf) s)

/-- WR_DLF (R107), under the busy guard (R108). -/
def execWrDlf (wdata : Word) (s : State) : Host.Outcome State Fault Refusal :=
  unlessBusy s { s with dlf := fracOperand wdata }

end Sys2Proof.Machine
end

