-- ==== Sys2Proof/Machine/Status.lean ====
section
/-! DEFINITION. Meanings of the status reads (43_status.md R140 to R148), of the writes to read-only
registers (R149), and of the two fallback operations (30_encoding.md R77). -/

namespace Sys2Proof.Machine

/-- RD_LSR (43_status.md R140): the value is sampled before the four latches are cleared, in one
step (20_memory.md R45). -/
def execRdLsr (s : State) : Host.Outcome State Fault Refusal :=
  .next (reply (zext32 (lsrValue s ((drawn 1 s).getLsbD 0))) (clearErrors (useDraw s)))

/-- RD_USR (R142): no side effect. -/
def execRdUsr (s : State) : Host.Outcome State Fault Refusal := .next (reply (zext32 (usrValue s)) s)

/-- RD_MSR (R143): the deltas are cleared. -/
def execRdMsr (s : State) : Host.Outcome State Fault Refusal :=
  .next (reply (zext32 (msrValue s)) (clearDeltas s))

/-- RD_TFL (R144). -/
def execRdTfl (s : State) : Host.Outcome State Fault Refusal := .next (reply (levelWord (txLevel s)) s)

/-- RD_RFL (R145). -/
def execRdRfl (s : State) : Host.Outcome State Fault Refusal := .next (reply (levelWord (rxLevel s)) s)

/-- RD_CPR (R146). -/
def execRdCpr (s : State) : Host.Outcome State Fault Refusal := .next (reply s.params.cprValue s)

/-- RD_UCV (R147). -/
def execRdUcv (s : State) : Host.Outcome State Fault Refusal := .next (reply s.params.ucvValue s)

/-- RD_CTR (R148). -/
def execRdCtr (s : State) : Host.Outcome State Fault Refusal := .next (reply s.params.ctrValue s)

/-- WR_LSR (R149): ignored; it does not clear the sticky bits. -/
def execWrLsr (wdata : Word) (s : State) : Host.Outcome State Fault Refusal := ignoreWrite wdata s

/-- WR_MSR (R149): ignored; it does not clear the deltas. -/
def execWrMsr (wdata : Word) (s : State) : Host.Outcome State Fault Refusal := ignoreWrite wdata s

/-- WR_USR (R149): ignored. -/
def execWrUsr (wdata : Word) (s : State) : Host.Outcome State Fault Refusal := ignoreWrite wdata s

/-- WR_TFL (R149): ignored. -/
def execWrTfl (wdata : Word) (s : State) : Host.Outcome State Fault Refusal := ignoreWrite wdata s

/-- WR_RFL (R149): ignored. -/
def execWrRfl (wdata : Word) (s : State) : Host.Outcome State Fault Refusal := ignoreWrite wdata s

/-- WR_CPR (R149): ignored. -/
def execWrCpr (wdata : Word) (s : State) : Host.Outcome State Fault Refusal := ignoreWrite wdata s

/-- WR_UCV (R149): ignored. -/
def execWrUcv (wdata : Word) (s : State) : Host.Outcome State Fault Refusal := ignoreWrite wdata s

/-- WR_CTR (R149): ignored. -/
def execWrCtr (wdata : Word) (s : State) : Host.Outcome State Fault Refusal := ignoreWrite wdata s

/-- RSVD_RD (30_encoding.md R77): `raise Refused(reserved_offset)`. -/
def execRsvdRd (_dlab : Bool) (_offset : Byte) (_s : State) : Host.Outcome State Fault Refusal :=
  .refused .reservedOffset

/-- RSVD_WR (30_encoding.md R77): `raise Refused(reserved_offset)`. -/
def execRsvdWr (_dlab : Bool) (_offset : Byte) (_wdata : Word) (_s : State) :
    Host.Outcome State Fault Refusal :=
  .refused .reservedOffset

end Sys2Proof.Machine
end

