-- ==== Sys2Proof/Machine/Dispatch.lean ====
section
/-! DEFINITION. One arm for each operation of spec/opcode_table.json, each a direct call of its meaning. -/

namespace Sys2Proof.Machine

def exec (i : Instr) (s : State) : Host.Outcome State Fault Refusal :=
  match i with
  | .rdRbr => Sys2Proof.Machine.execRdRbr s
  | .wrThr wdata => Sys2Proof.Machine.execWrThr wdata s
  | .rdScr => Sys2Proof.Machine.execRdScr s
  | .wrScr wdata => Sys2Proof.Machine.execWrScr wdata s
  | .rdDll => Sys2Proof.Machine.execRdDll s
  | .wrDll wdata => Sys2Proof.Machine.execWrDll wdata s
  | .rdDlh => Sys2Proof.Machine.execRdDlh s
  | .wrDlh wdata => Sys2Proof.Machine.execWrDlh wdata s
  | .wrLcr wdata => Sys2Proof.Machine.execWrLcr wdata s
  | .rdLcr => Sys2Proof.Machine.execRdLcr s
  | .rdDlf => Sys2Proof.Machine.execRdDlf s
  | .wrDlf wdata => Sys2Proof.Machine.execWrDlf wdata s
  | .rdIer => Sys2Proof.Machine.execRdIer s
  | .wrIer wdata => Sys2Proof.Machine.execWrIer wdata s
  | .rdIir => Sys2Proof.Machine.execRdIir s
  | .wrFcr wdata => Sys2Proof.Machine.execWrFcr wdata s
  | .rdMcr => Sys2Proof.Machine.execRdMcr s
  | .wrMcr wdata => Sys2Proof.Machine.execWrMcr wdata s
  | .rdLsr => Sys2Proof.Machine.execRdLsr s
  | .rdUsr => Sys2Proof.Machine.execRdUsr s
  | .rdMsr => Sys2Proof.Machine.execRdMsr s
  | .rdTfl => Sys2Proof.Machine.execRdTfl s
  | .rdRfl => Sys2Proof.Machine.execRdRfl s
  | .rdCpr => Sys2Proof.Machine.execRdCpr s
  | .rdUcv => Sys2Proof.Machine.execRdUcv s
  | .rdCtr => Sys2Proof.Machine.execRdCtr s
  | .wrLsr wdata => Sys2Proof.Machine.execWrLsr wdata s
  | .wrMsr wdata => Sys2Proof.Machine.execWrMsr wdata s
  | .wrUsr wdata => Sys2Proof.Machine.execWrUsr wdata s
  | .wrTfl wdata => Sys2Proof.Machine.execWrTfl wdata s
  | .wrRfl wdata => Sys2Proof.Machine.execWrRfl wdata s
  | .wrCpr wdata => Sys2Proof.Machine.execWrCpr wdata s
  | .wrUcv wdata => Sys2Proof.Machine.execWrUcv wdata s
  | .wrCtr wdata => Sys2Proof.Machine.execWrCtr wdata s
  | .rsvdRd dlab offset => Sys2Proof.Machine.execRsvdRd dlab offset s
  | .rsvdWr dlab offset wdata => Sys2Proof.Machine.execRsvdWr dlab offset wdata s
  | .txTake => Sys2Proof.Machine.execTxTake s
  | .txDone => Sys2Proof.Machine.execTxDone s
  | .rxStart => Sys2Proof.Machine.execRxStart s
  | .rxChar byte pe fe bi => Sys2Proof.Machine.execRxChar byte pe fe bi s
  | .modemChange lines => Sys2Proof.Machine.execModemChange lines s
  | .reset => Sys2Proof.Machine.execReset s

end Sys2Proof.Machine
end

