-- ==== Sys2Proof/Machine/Step.lean ====
section
/-! DEFINITION. One step: the next input is fetched, decoded and run (00_scope.md R8). -/

namespace Sys2Proof.Machine

/-- One input is served: it is decoded in the current state and the operation is run. -/
def serve (s : State) (x : Input) : Host.Outcome State Fault Refusal :=
  match nextInstr s x with
  | .ok i => exec i s
  | .error r => .refused r

/-- One step of the block: the head of `inbox` is taken off and served. With no input pending the
state stays as it is: "The state of the block changes only by" a bus operation or an event
(00_scope.md R8; log 1). -/
def step (s : State) : Host.Outcome State Fault Refusal :=
  match s.inbox with
  | [] => .next s
  | x :: rest => serve { s with inbox := rest } x

/-- The state in which the next step runs a word of spec/opcode_table.json (logs 1 and 8). -/
def State.withFetchWord (s : State) (nbits w : Nat) : State := placeWord s nbits w

end Sys2Proof.Machine
end

