-- ==== Sys2Proof/Machine/HostSequences.lean ====
section
/-! DEFINITION. The host sequences of 45_host_sequences.md (R180 to R188) as a host thread machine
over the bus operations, and the access classes of 60_exceptions.md (R210 to R213). A host thread's
position is host state, not device state (10_state.md R11, 45_host_sequences.md R187), so it stands
outside State; every access it makes is served by the block like any other. -/

namespace Sys2Proof.Machine

/-- The registers by the names of 30_encoding.md R62 and R78. -/
inductive RegName where
  | rbr
  | thr
  | dll
  | dlh
  | ier
  | iir
  | fcr
  | lcr
  | mcr
  | lsr
  | msr
  | scr
  | usr
  | tfl
  | rfl
  | dlf
  | cpr
  | ucv
  | ctr
  deriving DecidableEq, Repr

/-- The register map: the offset of each register (30_encoding.md R62). -/
def RegName.offset : RegName → Nat
  | .rbr | .thr | .dll => 0x00
  | .ier | .dlh => 0x04
  | .iir | .fcr => 0x08
  | .lcr => 0x0C
  | .mcr => 0x10
  | .lsr => 0x14
  | .msr => 0x18
  | .scr => 0x1C
  | .usr => 0x7C
  | .tfl => 0x80
  | .rfl => 0x84
  | .dlf => 0xC0
  | .cpr => 0xF4
  | .ucv => 0xF8
  | .ctr => 0xFC

/-- `RD <REG>` of 30_encoding.md R78, as an access of the host. -/
def readReg (r : RegName) : Input := .access false r.offset 4 0

/-- `WR <REG>, v` of 30_encoding.md R78, as an access of the host. -/
def writeReg (r : RegName) (v : Word) : Input := .access true r.offset 4 v

/-! ### The arithmetic of CONFIGURE (45_host_sequences.md R181, step C2) -/

/-- `divisor = serial_clock / (16 × baud_rate)`. -/
def divisorFor (baud clock : Word) : Nat := clock.toNat / (16 * baud.toNat)

/-- `frac = (serial_clock mod (16 × baud_rate)) / baud_rate`. -/
def fracFor (baud clock : Word) : Nat := clock.toNat % (16 * baud.toNat) / baud.toNat

/-! ### Sequences -/

/-- The pseudo-instructions of 30_encoding.md R79. -/
inductive HostCall where
  | poll (reg : RegName) (mask want : Word)
  | configure (baud clock : Word)
  | isTxFifoFull
  | writeWord (byte : Byte)
  | flush
  | isRxFifoEmpty
  | readWord
  deriving DecidableEq, Repr

/-- What a sequence, or a bus operation of the host's own, returns. -/
inductive HostResult where
  /-- POLL: the last value read (R180); a read of the host's own: `rdata` (20_memory.md R41). -/
  | value (v : Word)
  /-- CONFIGURE, WRITE_WORD, FLUSH, and a write of the host's own: no value (R181, R183, R184). -/
  | unit
  /-- The two queries (R182, R185). -/
  | bool (b : Bool)
  /-- READ_WORD: `Err(Break)` and the other three (R186). -/
  | readError (c : RxClass)
  /-- READ_WORD: `Ok(none)` or `Ok(some(byte))` (R186). -/
  | readOk (byte : Option Byte)
  deriving DecidableEq, Repr

/-- Where a host thread stands: between calls, or at a label of R180 to R186, one label for every bus
operation, each with the operands of its call and the local values that are still needed. -/
inductive HostPc where
  /-- No call has been made yet. -/
  | idle
  | p0 (reg : RegName) (mask want : Word)
  | c0 (baud clock : Word)
  | c1Read (baud clock : Word)
  | c1Write (baud clock l : Word)
  | c3Frac (baud clock : Word)
  | c3Low (baud clock : Word)
  | c3High (baud clock : Word)
  | c4 (baud clock : Word)
  | c5 (baud clock : Word)
  | t0
  | w0 (byte : Byte)
  | w1 (byte : Byte)
  | f0
  | e0
  | r0
  | r2
  /-- Between calls; `r` is what the last call or bus operation returned. -/
  | done (r : HostResult)
  deriving DecidableEq, Repr

/-- The first label of a sequence. `none` where the spec gives CONFIGURE no meaning: a zero operand
(93_implementation_defined.md U2) or `16 × baud_rate >= 2^32` (45_host_sequences.md R181 c, d;
DEDUCED for a zero clock, safe: log 17). -/
def HostCall.start : HostCall → Option HostPc
  | .poll reg mask want => some (.p0 reg mask want)
  | .configure baud clock =>
    if baud = 0 ∨ clock = 0 ∨ 2 ^ 32 ≤ 16 * baud.toNat then none else some (.c0 baud clock)
  | .isTxFifoFull => some .t0
  | .writeWord byte => some (.w0 byte)
  | .flush => some .f0
  | .isRxFifoEmpty => some .e0
  | .readWord => some .r0

/-- The call that a label belongs to, with its operands; `none` between calls. -/
def HostPc.call : HostPc → Option HostCall
  | .p0 reg mask want => some (.poll reg mask want)
  | .c0 baud clock | .c1Read baud clock | .c1Write baud clock _ | .c3Frac baud clock
  | .c3Low baud clock | .c3High baud clock | .c4 baud clock | .c5 baud clock =>
    some (.configure baud clock)
  | .t0 => some .isTxFifoFull
  | .w0 byte | .w1 byte => some (.writeWord byte)
  | .f0 => some .flush
  | .e0 => some .isRxFifoEmpty
  | .r0 | .r2 => some .readWord
  | .idle | .done _ => none

/-- The bus access a host thread makes next; `none` between calls. -/
def HostPc.access : HostPc → Option Input
  | .idle => none
  | .p0 reg _ _ => some (readReg reg)
  | .c0 _ _ => some (readReg .usr)
  | .c1Read _ _ => some (readReg .lcr)
  | .c1Write _ _ l => some (writeReg .lcr (l ||| 0x80))
  | .c3Frac baud clock => some (writeReg .dlf (BitVec.ofNat 32 (fracFor baud clock)))
  | .c3Low baud clock => some (writeReg .dll (BitVec.ofNat 32 (divisorFor baud clock % 256)))
  | .c3High baud clock => some (writeReg .dlh (BitVec.ofNat 32 (divisorFor baud clock / 256 % 256)))
  | .c4 _ _ => some (writeReg .lcr 0x03)
  | .c5 _ _ => some (writeReg .fcr 0x01)
  | .t0 => some (readReg .usr)
  | .w0 _ => some (readReg .usr)
  | .w1 byte => some (writeReg .thr (zext32 byte))
  | .f0 => some (readReg .lsr)
  | .e0 => some (readReg .usr)
  | .r0 => some (readReg .lsr)
  | .r2 => some (readReg .rbr)
  | .done _ => none

/-- Where READ_WORD goes on after its one read of Line Status (R186 R1). -/
def afterLsr (lsr : Byte) : HostPc :=
  match rxClass lsr with
  | .breakError => .done (.readError .breakError)
  | .framingError => .done (.readError .framingError)
  | .parityError => .done (.readError .parityError)
  | .overrunError => .done (.readError .overrunError)
  | .noData => .done (.readOk none)
  | .data => .r2

/-- Where a host thread goes on once its access is done; `v` is what a read returned. -/
def HostPc.resume (v : Word) : HostPc → HostPc
  | .idle => .idle
  | .p0 reg mask want => if v &&& mask ≠ want then .p0 reg mask want else .done (.value v)
  | .c0 baud clock => if v &&& 1 ≠ 0 then .c0 baud clock else .c1Read baud clock
  | .c1Read baud clock => .c1Write baud clock v
  | .c1Write baud clock _ => .c3Frac baud clock
  | .c3Frac baud clock => .c3Low baud clock
  | .c3Low baud clock => .c3High baud clock
  | .c3High baud clock => .c4 baud clock
  | .c4 baud clock => .c5 baud clock
  | .c5 _ _ => .done .unit
  | .t0 => .done (.bool (txFifoFull v))
  | .w0 byte => if txFifoFull v then .w0 byte else .w1 byte
  | .w1 _ => .done .unit
  | .f0 => if txDrained v then .done .unit else .f0
  | .e0 => .done (.bool (rxFifoEmpty v))
  | .r0 => afterLsr (byteOperand v)
  | .r2 => .done (.readOk (some (byteOperand v)))
  | .done r => .done r

/-- What the last bus read returned. -/
def lastReply (s : State) : Word := s.replies.getLastD 0

/-- One bus operation of a host thread. -/
def hostStep (pc : HostPc) (s : State) : Host.Outcome (HostPc × State) Fault Refusal :=
  match pc.access with
  | none => .next (pc, s)
  | some x =>
    match serve s x with
    | .next t => .next (pc.resume (lastReply t), t)
    | .fault r => .fault r
    | .refused r => .refused r

/-- `k` bus operations of a host thread with no other step between them (a quiet line,
44_line_events.md R165). -/
def hostRun : Nat → HostPc → State → Host.Outcome (HostPc × State) Fault Refusal
  | 0, pc, s => .next (pc, s)
  | k + 1, pc, s =>
    match hostStep pc s with
    | .next (pc', t) => hostRun k pc' t
    | .fault r => .fault r
    | .refused r => .refused r

/-! ### Access classes and several host threads (60_exceptions.md R210 to R213) -/

/-- The two software access classes (R210, R211). -/
inductive AccessClass where
  | owner
  | view
  deriving DecidableEq, Repr

/-- What a class may issue: the owner every bus operation (R210), a view only RD_USR and RD_LSR
(R211). Events are not issued by the host. -/
def AccessClass.mayIssue (c : AccessClass) (i : Instr) : Bool :=
  match c with
  | .owner => true
  | .view => i == .rdUsr || i == .rdLsr

/-- The class of each sequence (45_host_sequences.md R188). R188 gives POLL none: it takes the class
of the read it repeats (DESIGN CHOICE, safe: log 18). -/
def HostCall.accessClass : HostCall → AccessClass
  | .configure _ _ | .writeWord _ | .readWord => .owner
  | .isTxFifoFull | .isRxFifoEmpty | .flush => .view
  | .poll reg _ _ => if reg = .usr ∨ reg = .lsr then .view else .owner

/-- The bus operations a sequence may issue, as direction and register (45_host_sequences.md R188). -/
def HostCall.operations : HostCall → List (Bool × RegName)
  | .configure _ _ =>
    [(false, .usr), (false, .lcr), (true, .lcr), (true, .dlf), (true, .dll), (true, .dlh),
      (true, .fcr)]
  | .writeWord _ => [(false, .usr), (true, .thr)]
  | .readWord => [(false, .lsr), (false, .rbr)]
  | .isTxFifoFull | .isRxFifoEmpty => [(false, .usr)]
  | .flush => [(false, .lsr)]
  | .poll reg _ _ => [(false, reg)]

/-- What a class may call: the owner every sequence, a view the shared ones (45_host_sequences.md
R188, 60_exceptions.md R210, R211). -/
def AccessClass.mayCall (c : AccessClass) (call : HostCall) : Bool :=
  c == .owner || call.accessClass == .view

/-- A host thread: the class it has now and where it stands. -/
structure HostThread where
  cls : AccessClass
  pc : HostPc
  deriving DecidableEq, Repr

/-- The call a thread is in, if any, is one that its class may make (45_host_sequences.md R188). -/
def HostThread.callAllowed (th : HostThread) : Bool :=
  match th.pc.call with
  | none => true
  | some c => th.cls.mayCall c

/-- The block and the host threads around it (60_exceptions.md R213). Which threads there are does
not change within a run (DESIGN CHOICE, safe: log 30). -/
structure HostSystem where
  dev : State
  threads : List HostThread
  deriving DecidableEq, Repr

/-- At most one exclusive owner exists at any time (R210). -/
def HostSystem.oneOwner (h : HostSystem) : Bool :=
  decide ((h.threads.filter (fun t => t.cls == .owner)).length ≤ 1)

/-- The well-formedness of a set of host threads: at most one owner, so that at most one thread
issues operations outside RD_USR and RD_LSR (R212), and no thread in a call of a class it has not
(45_host_sequences.md R188). -/
def HostSystem.wellFormed (h : HostSystem) : Bool := h.oneOwner && h.threads.all HostThread.callAllowed

/-- Why a step of a host system is refused. -/
inductive HostRefusal where
  /-- The block refused the access. -/
  | device (r : Refusal)
  /-- A view issued an operation, or made a call, that only the owner may (R188, R211, R212; U4). Safe. -/
  | outsideClass
  /-- More than one thread is, or would become, an owner (R210, R212; U4). Safe. -/
  | twoOwners
  /-- A call to which the spec gives no meaning (45_host_sequences.md R181 c, d; U2; log 17). Safe. -/
  | callWithoutMeaning
  /-- The schedule has a thread do something else while it is in a call, whose operations are
  synchronous (R213; logs 29 and 30). Safe. -/
  | withinCall
  /-- The schedule names a thread that is not there. Safe. -/
  | noSuchThread
  deriving DecidableEq, Repr

/-- What the program of a host thread does between its calls. -/
inductive HostAction where
  /-- It makes a call (30_encoding.md R79). -/
  | call (c : HostCall)
  /-- It issues a bus operation of its own (20_memory.md R41; 60_exceptions.md R210). -/
  | issue (wr : Bool) (offset width : Nat) (wdata : Word)
  /-- It obtains the exclusive handle (60_exceptions.md R212). -/
  | obtain
  /-- It drops the exclusive handle and is a shared view from then on (60_exceptions.md R212). -/
  | drop
  deriving DecidableEq, Repr

/-- Whose turn it is (20_memory.md R49): a host thread goes on with the call it is in, a host thread
between calls does what its program says next, or an event of the serial side occurs. What a host
thread's program is the spec does not fix; the model fixes none either and takes each action from the
schedule (DESIGN CHOICE, safe: log 30). -/
inductive Turn where
  | thread (n : Nat)
  | act (n : Nat) (a : HostAction)
  | event (ev : BitVec 3) (operands : BitVec 11)
  deriving DecidableEq, Repr

/-- Thread `n` is replaced. -/
def HostSystem.setThread (h : HostSystem) (n : Nat) (th : HostThread) : HostSystem :=
  { h with threads := h.threads.set n th }

/-- One bus operation of thread `n`, which is `th`: refused with two owners or outside its class
(R210 to R212), else served by the block; `resume` says where the thread goes on with the reply. -/
def HostSystem.access (h : HostSystem) (n : Nat) (th : HostThread) (x : Input)
    (resume : Word → HostPc) : Host.Outcome HostSystem Fault HostRefusal :=
  if !h.oneOwner then .refused .twoOwners
  else
    match nextInstr h.dev x with
    | .error r => .refused (.device r)
    | .ok i =>
      if th.cls.mayIssue i then
        match exec i h.dev with
        | .next t =>
          .next (HostSystem.setThread { h with dev := t } n { th with pc := resume (lastReply t) })
        | .fault r => .fault r
        | .refused r => .refused (.device r)
      else .refused .outsideClass

/-- Thread `n`, which is `th`, goes on with the call it is in, if its class may make that call
(45_host_sequences.md R188). A thread between calls has nothing to go on with: its turn changes
nothing (DESIGN CHOICE, safe: log 30). -/
def HostSystem.goOn (h : HostSystem) (n : Nat) (th : HostThread) :
    Host.Outcome HostSystem Fault HostRefusal :=
  match th.pc.access with
  | none => .next h
  | some x => if th.callAllowed then h.access n th x th.pc.resume else .refused .outsideClass

/-- Thread `n`, which is `th`, takes another class (60_exceptions.md R212); there is never a second
owner (R210). -/
def HostSystem.become (h : HostSystem) (n : Nat) (th : HostThread) (c : AccessClass) :
    Host.Outcome HostSystem Fault HostRefusal :=
  if (h.setThread n { th with cls := c }).oneOwner then .next (h.setThread n { th with cls := c })
  else .refused .twoOwners

/-- Thread `n`, which is `th` and stands between calls, does what its program says. A class is
entered and left in software, by obtaining or dropping the handle (60_exceptions.md R212): when the
spec does not say; the model lets a thread do it at any time between two of its calls and never
within one (DESIGN CHOICE, safe: log 29). -/
def HostSystem.act (h : HostSystem) (n : Nat) (th : HostThread) :
    HostAction → Host.Outcome HostSystem Fault HostRefusal
  | .call c =>
    if th.cls.mayCall c then
      match c.start with
      | some pc => .next (h.setThread n { th with pc := pc })
      | none => .refused .callWithoutMeaning
    else .refused .outsideClass
  | .issue wr offset width wdata =>
    h.access n th (.access wr offset width wdata)
      (fun v => .done (if wr then .unit else .value v))
  | .obtain => h.become n th .owner
  | .drop => h.become n th .view

/-- One step of a host system (60_exceptions.md R210 to R213). A thread's class changes by its
actions `obtain` and `drop` alone (DESIGN CHOICE: log 29), and its program is the schedule's (DESIGN
CHOICE: log 30). -/
def HostSystem.step (h : HostSystem) : Turn → Host.Outcome HostSystem Fault HostRefusal
  | .event ev operands =>
    match serve h.dev (.event ev operands) with
    | .next t => .next { h with dev := t }
    | .fault r => .fault r
    | .refused r => .refused (.device r)
  | .thread n =>
    match h.threads[n]? with
    | none => .refused .noSuchThread
    | some th => h.goOn n th
  | .act n a =>
    match h.threads[n]? with
    | none => .refused .noSuchThread
    | some th => if th.pc.call = none then h.act n th a else .refused .withinCall

end Sys2Proof.Machine
end

