-- ==== Sys2Proof/Safety.lean ====
section
/-! DEFINITION. What counts as a safe run, in the terms that statements use: the state invariants of
10_state.md R31, quiescence (70_reset_and_hazards.md R242), runs, and the fairness that
44_line_events.md R168 allows one to assume. -/

namespace Sys2Proof.Machine

/-- The state invariants (I-a), (I-b), (I-c) of 10_state.md R31. -/
abbrev Inv (s : State) : Prop :=
  s.txFifo.length ≤ txCap s ∧ s.rxFifo.length ≤ rxCap s ∧
    s.ier.extractLsb' 4 4 = 0 ∧ s.mcr.extractLsb' 4 3 = 0

/-- The block is quiescent (70_reset_and_hazards.md R242). -/
abbrev quiescent (s : State) : Prop := s.txFifo = [] ∧ s.txShift = none ∧ s.rxActive = false

/-- Nothing was refused and no fault was raised in `n` steps (60_exceptions.md R202: "a claim takes
'nothing refused' as a premise"). -/
def safeRun (n : Nat) (s : State) : Prop := ∃ t, Sys2Proof.core.run n s = .next t

/-- The bytes in the transmit path, oldest first: sent, being sent, queued (40_data_path.md R94 a). -/
def txPath (s : State) : List Byte := s.txLog.map Prod.fst ++ s.txShift.toList ++ s.txFifo

/-- What an operation adds to the accepted bytes: WR_THR its byte, when there is room
(40_data_path.md R91, R94 a). -/
def accepted (i : Instr) (s : State) : List Byte :=
  match i with
  | .wrThr w => if s.txFifo.length < txCap s then [byteOperand w] else []
  | _ => []

/-- The operation discards no byte of the transmit path: it is no RESET and no WR_FCR that empties
the transmit FIFO (40_data_path.md R94 c). -/
def keepsTx (i : Instr) (s : State) : Bool :=
  match i with
  | .reset => false
  | .wrFcr w => w.getLsbD 0 == s.fifoe && !w.getLsbD 2
  | _ => true

/-- What an operation takes out of the receive FIFO at the front: RD_RBR its head (40_data_path.md R90). -/
def taken (i : Instr) (s : State) : List Byte :=
  match i with
  | .rdRbr => s.rxFifo.take 1
  | _ => []

/-- What an operation adds to the receive FIFO at the back: RX_CHAR its byte, when there is room
(44_line_events.md R164). -/
def arrived (i : Instr) (s : State) : List Byte :=
  match i with
  | .rxChar b _ _ _ => if s.rxFifo.length < rxCap s then [b] else []
  | _ => []

/-- The operation discards no byte of the receive FIFO: it is no RESET, no WR_FCR that empties the
receive FIFO, and no RX_CHAR that overwrites the buffer register (40_data_path.md R94 c). -/
def keepsRx (i : Instr) (s : State) : Bool :=
  match i with
  | .reset => false
  | .wrFcr w => w.getLsbD 0 == s.fifoe && !w.getLsbD 1
  | .rxChar _ _ _ _ => s.fifoe || decide (s.rxFifo.length < rxCap s)
  | _ => true

/-- The operations of a list, one after the other, stopping at the first fault or refusal. -/
def runOps : List Instr → State → Host.Outcome State Fault Refusal
  | [], s => .next s
  | i :: rest, s =>
    match exec i s with
    | .next t => runOps rest t
    | .fault r => .fault r
    | .refused r => .refused r

/-- What a list of operations adds to the accepted bytes, each in the state it runs in; nothing
after a stop. -/
def acceptedAll : List Instr → State → List Byte
  | [], _ => []
  | i :: rest, s =>
    match exec i s with
    | .next t => accepted i s ++ acceptedAll rest t
    | .fault _ => []
    | .refused _ => []

/-- No operation of a list discards a byte of the transmit path, each in the state it runs in. -/
def keepsTxAll : List Instr → State → Bool
  | [], _ => true
  | i :: rest, s =>
    keepsTx i s &&
      match exec i s with
      | .next t => keepsTxAll rest t
      | .fault _ => true
      | .refused _ => true

/-- An infinite run of the block: `op n` is the operation of step `n`, every one answering a next
state (00_scope.md R8). -/
structure Run where
  state : Nat → State
  op : Nat → Instr
  steps : ∀ n, exec (op n) (state n) = .next (state (n + 1))

/-- Weak fairness of the transmit engine (44_line_events.md R168): an event of it that is enabled
from some step on, with a divisor that is not zero, occurs. It is an assumption one may make, part
of no definition of the machine (log 19). -/
def Run.fair (r : Run) : Prop :=
  ∀ n,
    ((∀ m, n ≤ m → txTakeEnabled (r.state m) = true ∧ divisorInt (r.state m) ≠ 0) →
      ∃ m, n ≤ m ∧ r.op m = .txTake) ∧
    ((∀ m, n ≤ m → txDoneEnabled (r.state m) = true ∧ divisorInt (r.state m) ≠ 0) →
      ∃ m, n ≤ m ∧ r.op m = .txDone)

end Sys2Proof.Machine
end

