-- ==== Sys2Proof/Certificates/Slice0/Obligations.lean ====
section
/-! DEFINITION. The statements for the provers. What a bus read returns is written in the model as
a word appended to `replies` (log 2), and the use of a free value as `draws + 1` (log 3): these two
stand for the spec's `rdata` and `draw(N)`. Every free value stands under an existential. -/

open Sys2Proof Sys2Proof.Machine

/-! ## Encoding -/

/-- Words written out from the spec decode to the operations they stand for: eight of the decode
vectors (95_test_vectors.md 2.1), and the event codes 1 and 5 of 30_encoding.md R80. How a key or an
event code lies in the number that `decodeTableWord` takes (its choice of format by the number of bits,
`wdata` = 0, the window and offset that RSVD_RD and RSVD_WR carry) is the model's own (log 8, DESIGN
CHOICE). -/
def Obligations.SpecWordsDecode : Prop :=
  decodeTableWord 16 0x000 = some .rdRbr ∧ decodeTableWord 16 0x300 = some (.wrDll 0) ∧
  decode (.bus 0x30C 0x00000003) = .ok (.wrLcr 0x00000003) ∧
  decodeTableWord 16 0x208 = some (.wrFcr 0) ∧ decodeTableWord 16 0x114 = some .rdLsr ∧
  decodeTableWord 16 0x1C0 = some .rdDlf ∧ decodeTableWord 16 0x0C0 = some (.rsvdRd false 0xC0) ∧
  decodeTableWord 16 0x388 = some (.rsvdWr true 0x88 0) ∧ decodeTableWord 8 0x1 = some .txDone ∧
  decodeTableWord 8 0x5 = some .reset

/-- Decoding the words of any well-formed operation, made in either window, gives it back: no
operand bit is dropped (30_encoding.md R60, R63, R76, R77, R80). The places of the event operand
bits are the model's own (log 7). -/
def Obligations.DecodeOfEncode : Prop :=
  ∀ (i : Instr) (d : Bool), i.wellFormed = true → decode (encodeAt d i) = .ok i

/-- Whatever decodes is well formed, and encoding it in the window it was decoded in gives the
encoding back, less the data word of a read, which a read ignores (20_memory.md R41). -/
def Obligations.EncodeOfDecode : Prop :=
  ∀ (e : Encoded) (i : Instr), decode e = .ok i →
    i.wellFormed = true ∧ encodeAt e.dlab i = e.canonical

/-- R63 of 30_encoding.md: a key that `(K & mask) = match` finds in one of the 34 rows decodes to
that row's operation, the rows are pairwise disjoint, and an aligned key that no row finds is
RSVD_RD or RSVD_WR by `K[9]`. -/
def Obligations.DecodeFollowsTheTable : Prop :=
  (∀ (k : BitVec 10) (w : Word),
    (k &&& 0x3FF = 0x000 → decode (.bus k w) = .ok .rdRbr) ∧
    (k &&& 0x3FF = 0x200 → decode (.bus k w) = .ok (.wrThr w)) ∧
    (k &&& 0x2FF = 0x01C → decode (.bus k w) = .ok .rdScr) ∧
    (k &&& 0x2FF = 0x21C → decode (.bus k w) = .ok (.wrScr w)) ∧
    (k &&& 0x3FF = 0x100 → decode (.bus k w) = .ok .rdDll) ∧
    (k &&& 0x3FF = 0x300 → decode (.bus k w) = .ok (.wrDll w)) ∧
    (k &&& 0x3FF = 0x104 → decode (.bus k w) = .ok .rdDlh) ∧
    (k &&& 0x3FF = 0x304 → decode (.bus k w) = .ok (.wrDlh w)) ∧
    (k &&& 0x2FF = 0x20C → decode (.bus k w) = .ok (.wrLcr w)) ∧
    (k &&& 0x2FF = 0x00C → decode (.bus k w) = .ok .rdLcr) ∧
    (k &&& 0x3FF = 0x1C0 → decode (.bus k w) = .ok .rdDlf) ∧
    (k &&& 0x3FF = 0x3C0 → decode (.bus k w) = .ok (.wrDlf w)) ∧
    (k &&& 0x3FF = 0x004 → decode (.bus k w) = .ok .rdIer) ∧
    (k &&& 0x3FF = 0x204 → decode (.bus k w) = .ok (.wrIer w)) ∧
    (k &&& 0x2FF = 0x008 → decode (.bus k w) = .ok .rdIir) ∧
    (k &&& 0x2FF = 0x208 → decode (.bus k w) = .ok (.wrFcr w)) ∧
    (k &&& 0x2FF = 0x010 → decode (.bus k w) = .ok .rdMcr) ∧
    (k &&& 0x2FF = 0x210 → decode (.bus k w) = .ok (.wrMcr w)) ∧
    (k &&& 0x2FF = 0x014 → decode (.bus k w) = .ok .rdLsr) ∧
    (k &&& 0x2FF = 0x07C → decode (.bus k w) = .ok .rdUsr) ∧
    (k &&& 0x2FF = 0x018 → decode (.bus k w) = .ok .rdMsr) ∧
    (k &&& 0x2FF = 0x080 → decode (.bus k w) = .ok .rdTfl) ∧
    (k &&& 0x2FF = 0x084 → decode (.bus k w) = .ok .rdRfl) ∧
    (k &&& 0x2FF = 0x0F4 → decode (.bus k w) = .ok .rdCpr) ∧
    (k &&& 0x2FF = 0x0F8 → decode (.bus k w) = .ok .rdUcv) ∧
    (k &&& 0x2FF = 0x0FC → decode (.bus k w) = .ok .rdCtr) ∧
    (k &&& 0x2FF = 0x214 → decode (.bus k w) = .ok (.wrLsr w)) ∧
    (k &&& 0x2FF = 0x218 → decode (.bus k w) = .ok (.wrMsr w)) ∧
    (k &&& 0x2FF = 0x27C → decode (.bus k w) = .ok (.wrUsr w)) ∧
    (k &&& 0x2FF = 0x280 → decode (.bus k w) = .ok (.wrTfl w)) ∧
    (k &&& 0x2FF = 0x284 → decode (.bus k w) = .ok (.wrRfl w)) ∧
    (k &&& 0x2FF = 0x2F4 → decode (.bus k w) = .ok (.wrCpr w)) ∧
    (k &&& 0x2FF = 0x2F8 → decode (.bus k w) = .ok (.wrUcv w)) ∧
    (k &&& 0x2FF = 0x2FC → decode (.bus k w) = .ok (.wrCtr w))) ∧
  busTable.length = 34 ∧
  (∀ k : BitVec 10, (busTable.filter (fun row => k &&& row.mask == row.pat)).length ≤ 1) ∧
  (∀ (k : BitVec 10) (w : Word), (k.setWidth 8).toNat % 4 = 0 →
    (∀ row ∈ busTable, k &&& row.mask ≠ row.pat) →
    decode (.bus k w) =
      .ok (if k.getLsbD 9 then .rsvdWr (k.getLsbD 8) (k.setWidth 8) w
        else .rsvdRd (k.getLsbD 8) (k.setWidth 8)))

/-- R77 of 30_encoding.md: the offsets 0x20 to 0x78, 0x88 to 0xBC, 0xC4 to 0xF0, and 0xC0 with
DLAB = 0, are the ones that decode to RSVD_RD and RSVD_WR, and those two are refused in every state. -/
def Obligations.ReservedOffsetsRefused : Prop :=
  (∀ (d : Bool) (o : Byte) (w : Word), o.toNat % 4 = 0 →
    (((0x20 ≤ o.toNat ∧ o.toNat ≤ 0x78) ∨ (0x88 ≤ o.toNat ∧ o.toNat ≤ 0xBC) ∨
        (0xC4 ≤ o.toNat ∧ o.toNat ≤ 0xF0) ∨ (o.toNat = 0xC0 ∧ d = false)) ↔
      decode (.bus (keyOf false d o) w) = .ok (.rsvdRd d o)) ∧
    (((0x20 ≤ o.toNat ∧ o.toNat ≤ 0x78) ∨ (0x88 ≤ o.toNat ∧ o.toNat ≤ 0xBC) ∨
        (0xC4 ≤ o.toNat ∧ o.toNat ≤ 0xF0) ∨ (o.toNat = 0xC0 ∧ d = false)) ↔
      decode (.bus (keyOf true d o) w) = .ok (.rsvdWr d o w))) ∧
  (∀ (d : Bool) (o : Byte) (w : Word) (s : State),
    exec (.rsvdRd d o) s = .refused .reservedOffset ∧
    exec (.rsvdWr d o w) s = .refused .reservedOffset)

/-- R61 of 30_encoding.md: which register the aliased offsets reach in each window and direction,
that 0xC0 is refused in every state in the normal window, and that at every other offset the window
makes no difference to what an access does. That RSVD_RD and RSVD_WR carry window and offset is the
model's own (log 8). -/
def Obligations.WindowMovesOnlyTheAliasedOffsets : Prop :=
  (∀ w : Word,
    decode (.bus (keyOf false false 0x00) w) = .ok .rdRbr ∧
    decode (.bus (keyOf true false 0x00) w) = .ok (.wrThr w) ∧
    decode (.bus (keyOf false false 0x04) w) = .ok .rdIer ∧
    decode (.bus (keyOf true false 0x04) w) = .ok (.wrIer w) ∧
    decode (.bus (keyOf false true 0x00) w) = .ok .rdDll ∧
    decode (.bus (keyOf true true 0x00) w) = .ok (.wrDll w) ∧
    decode (.bus (keyOf false true 0x04) w) = .ok .rdDlh ∧
    decode (.bus (keyOf true true 0x04) w) = .ok (.wrDlh w) ∧
    decode (.bus (keyOf false true 0xC0) w) = .ok .rdDlf ∧
    decode (.bus (keyOf true true 0xC0) w) = .ok (.wrDlf w) ∧
    decode (.bus (keyOf false false 0xC0) w) = .ok (.rsvdRd false 0xC0) ∧
    decode (.bus (keyOf true false 0xC0) w) = .ok (.rsvdWr false 0xC0 w) ∧
    (∀ s : State, dlab s = false →
      serve s (.access false 0xC0 4 w) = .refused .reservedOffset ∧
      serve s (.access true 0xC0 4 w) = .refused .reservedOffset) ∧
    (∀ d, decode (.bus (keyOf false d 0x08) w) = .ok .rdIir) ∧
    (∀ d, decode (.bus (keyOf true d 0x08) w) = .ok (.wrFcr w))) ∧
  (∀ (wr : Bool) (o : Byte) (w : Word) (i : Instr), o ≠ 0x00 → o ≠ 0x04 → o ≠ 0xC0 →
    decode (.bus (keyOf wr false o) w) = .ok i →
    ∃ j, decode (.bus (keyOf wr true o) w) = .ok j ∧ ∀ s, exec j s = exec i s)

/-- R80 of 30_encoding.md: the event codes 0 to 5, and that 6 and 7 are no event. Where the operand
bits lie, and that an operand bit an event does not have is refused, is the model's choice (log 7). -/
def Obligations.EventCodesDecode : Prop :=
  decode (.event 0 0) = .ok .txTake ∧ decode (.event 1 0) = .ok .txDone ∧
  decode (.event 2 0) = .ok .rxStart ∧
  (∀ b pe fe bi, decode (.event 3 (rxCharOperands b pe fe bi)) = .ok (.rxChar b pe fe bi)) ∧
  (∀ lines : BitVec 4, decode (.event 4 (lines.setWidth 11)) = .ok (.modemChange lines)) ∧
  decode (.event 5 0) = .ok .reset ∧
  (∀ o, decode (.event 6 o) = .error .noSuchEvent ∧ decode (.event 7 o) = .error .noSuchEvent) ∧
  (∀ (s : State) (o : BitVec 11) (rest : List Input),
    step { s with inbox := .event 6 o :: rest } = .refused .noSuchEvent ∧
    step { s with inbox := .event 7 o :: rest } = .refused .noSuchEvent)

/-! ## Steps -/

/-- A step runs the decoded operation: with an aligned 4-byte access inside the block, or an event,
at the head of `inbox`, whose encoding (with `K[8]` the DLAB bit of the state) decodes to `i`, the
step is `exec i` on the state without that input; with no input pending the state stays
(00_scope.md R8, 20_memory.md R41, R52; that inputs wait in `inbox` is log 1). -/
def Obligations.StepRunsTheDecodedOperation : Prop :=
  (∀ (s : State) (wr : Bool) (offset : Nat) (w : Word) (rest : List Input) (i : Instr),
    s.inbox = .access wr offset 4 w :: rest → offset % 4 = 0 → offset < 0x100 →
    decode (.bus (keyOf wr (s.lcr.getLsbD 7) (BitVec.ofNat 8 offset)) w) = .ok i →
    step s = exec i { s with inbox := rest }) ∧
  (∀ (s : State) (ev : BitVec 3) (o : BitVec 11) (rest : List Input) (i : Instr),
    s.inbox = .event ev o :: rest → decode (.event ev o) = .ok i →
    step s = exec i { s with inbox := rest }) ∧
  (∀ s : State, s.inbox = [] → step s = .next s)

/-- R42 of 20_memory.md: an access that is not 4 bytes wide, aligned and inside the block is
refused; every other one decodes to an operation. -/
def Obligations.OnlyAlignedWordAccesses : Prop :=
  ∀ (s : State) (wr : Bool) (offset width : Nat) (w : Word) (rest : List Input),
    s.inbox = .access wr offset width w :: rest →
    if width = 4 ∧ offset % 4 = 0 ∧ offset < 0x100 then
      ∃ i, decode (.bus (keyOf wr (s.lcr.getLsbD 7) (BitVec.ofNat 8 offset)) w) = .ok i ∧
        step s = exec i { s with inbox := rest }
    else step s = .refused .badAccess

/-- The host's two helpers agree: where a table word decodes, the state made by `withFetchWord` runs
that operation at its next step; for a bus word DLAB is as `K[8]` has it (logs 1 and 8). -/
def Obligations.FetchWordRunsTheTableWord : Prop :=
  ∀ (s : State) (nbits w : Nat) (i : Instr), decodeTableWord nbits w = some i →
    step (s.withFetchWord nbits w) =
      exec i (if nbits ≤ 8 then s
        else { s with lcr := (s.lcr &&& 0x7F) ||| (if w.testBit 8 then 0x80 else 0x00) })

/-! ## Data path and scratch -/

/-- The plain register reads answer the stored field, filled up with zeros, and change nothing
(R92, R100, R102, R105, R106, R120, R125); the fractional divisor is not reached with DLAB = 0. -/
def Obligations.PlainReadsAnswerTheRegister : Prop :=
  ∀ (s : State) (w : Word),
    (decode (.bus 0x01C w) = .ok .rdScr ∧ decode (.bus 0x11C w) = .ok .rdScr ∧
      exec .rdScr s = .next { s with replies := s.replies ++ [s.scr.setWidth 32] }) ∧
    (decode (.bus 0x100 w) = .ok .rdDll ∧ decode (.bus 0x000 w) = .ok .rdRbr ∧
      exec .rdDll s = .next { s with replies := s.replies ++ [s.dll.setWidth 32] }) ∧
    (decode (.bus 0x104 w) = .ok .rdDlh ∧ decode (.bus 0x004 w) = .ok .rdIer ∧
      exec .rdDlh s = .next { s with replies := s.replies ++ [s.dlh.setWidth 32] }) ∧
    (decode (.bus 0x00C w) = .ok .rdLcr ∧ decode (.bus 0x10C w) = .ok .rdLcr ∧
      exec .rdLcr s = .next { s with replies := s.replies ++ [s.lcr.setWidth 32] }) ∧
    (decode (.bus 0x1C0 w) = .ok .rdDlf ∧ decode (.bus 0x0C0 w) = .ok (.rsvdRd false 0xC0) ∧
      exec (.rsvdRd false 0xC0) s = .refused .reservedOffset ∧
      exec .rdDlf s = .next { s with replies := s.replies ++ [s.dlf.setWidth 32] }) ∧
    (decode (.bus 0x004 w) = .ok .rdIer ∧
      exec .rdIer s = .next { s with replies := s.replies ++ [s.ier.setWidth 32] }) ∧
    (decode (.bus 0x010 w) = .ok .rdMcr ∧ decode (.bus 0x110 w) = .ok .rdMcr ∧
      exec .rdMcr s = .next { s with replies := s.replies ++ [s.mcr.setWidth 32] })

/-- R90 of 40_data_path.md: RD_RBR answers the oldest byte and removes it, and then the derived
flags follow; with the FIFO empty it answers some byte and changes nothing of the spec's state. With
DLAB = 1 the same bus read is RD_DLL. -/
def Obligations.ReadReceiveBuffer : Prop :=
  (∀ w, decode (.bus 0x000 w) = .ok .rdRbr ∧ decode (.bus 0x100 w) = .ok .rdDll) ∧
  ∀ s : State,
    match s.rxFifo with
    | b :: rest => ∃ t,
      exec .rdRbr s = .next t ∧
      t = { s with rxFifo := rest, replies := s.replies ++ [b.setWidth 32] } ∧
      rxLevel t + 1 = rxLevel s ∧ (dr t = true ↔ rest ≠ []) ∧ (rfne t = true ↔ rest ≠ []) ∧
      (rxLevel s ≤ rxCap s → rff t = false)
    | [] => ∃ v : Byte,
      exec .rdRbr s = .next { s with replies := s.replies ++ [v.setWidth 32], draws := s.draws + 1 }

/-- R91 of 40_data_path.md: WR_THR appends `wdata[7:0]` when there is room, and then the derived
flags follow; with the FIFO full nothing changes. With DLAB = 1 the same bus write is WR_DLL. -/
def Obligations.WriteTransmitHolding : Prop :=
  (∀ w, decode (.bus 0x200 w) = .ok (.wrThr w) ∧ decode (.bus 0x300 w) = .ok (.wrDll w)) ∧
  ∀ (s : State) (w : Word),
    if s.txFifo.length < (if s.fifoe then s.params.fifoDepth else 1) then
      ∃ t, exec (.wrThr w) s = .next t ∧ t = { s with txFifo := s.txFifo ++ [w.setWidth 8] } ∧
        thre t = false ∧ temt t = false ∧ tfe t = false ∧ busy t = true ∧
        txLevel t = txLevel s + 1 ∧ (tfnf t = false ↔ txLevel t = txCap s)
    else exec (.wrThr w) s = .next s

/-- R93 of 40_data_path.md: WR_SCR stores `wdata[7:0]` and nothing else changes. -/
def Obligations.WriteScratch : Prop :=
  ∀ (s : State) (w : Word),
    decode (.bus 0x21C w) = .ok (.wrScr w) ∧ decode (.bus 0x31C w) = .ok (.wrScr w) ∧
    exec (.wrScr w) s = .next { s with scr := w.setWidth 8 }

/-! ## Line configuration -/

/-- R101, R103, R104, R107 of 41_divisor_config.md: the four configuration writes store their field
and change nothing else, and are refused while BUSY = 1; `wdata[7]` of WR_LCR is the configuration state
after it. -/
def Obligations.ConfigurationWrites : Prop :=
  (∀ w, decode (.bus 0x300 w) = .ok (.wrDll w) ∧ decode (.bus 0x304 w) = .ok (.wrDlh w) ∧
    decode (.bus 0x20C w) = .ok (.wrLcr w) ∧ decode (.bus 0x30C w) = .ok (.wrLcr w) ∧
    decode (.bus 0x3C0 w) = .ok (.wrDlf w) ∧
    decode (.bus 0x2C0 w) = .ok (.rsvdWr false 0xC0 w) ∧
    ∀ s, exec (.rsvdWr false 0xC0 w) s = .refused .reservedOffset) ∧
  ∀ (s : State) (w : Word),
    if busy s then
      exec (.wrDll w) s = .refused .busyWrite ∧ exec (.wrDlh w) s = .refused .busyWrite ∧
      exec (.wrLcr w) s = .refused .busyWrite ∧ exec (.wrDlf w) s = .refused .busyWrite
    else
      exec (.wrDll w) s = .next { s with dll := w.setWidth 8 } ∧
      exec (.wrDlh w) s = .next { s with dlh := w.setWidth 8 } ∧
      exec (.wrLcr w) s = .next { s with lcr := w.setWidth 8 } ∧
      lineMode { s with lcr := w.setWidth 8 } = (if w.getLsbD 7 then .divisor else .normal) ∧
      exec (.wrDlf w) s = .next { s with dlf := w.setWidth 4 }

/-- R108 of 41_divisor_config.md: the busy guard refuses exactly the four configuration writes, and
exactly while BUSY = 1; it applies to no read and to no other write. -/
def Obligations.BusyGuardIsForConfigurationWrites : Prop :=
  ∀ (i : Instr) (s : State),
    exec i s = .refused .busyWrite ↔
      busy s = true ∧ ∃ w, i = .wrLcr w ∨ i = .wrDll w ∨ i = .wrDlh w ∨ i = .wrDlf w

/-- The configuration outputs (41_divisor_config.md R112, R113 b): what each of them is, and that only
the write of its own register, and RESET, changes it. -/
def Obligations.OutputsFollowTheConfiguration : Prop :=
  (∀ s : State,
    (outputs s).divisorInt.toNat = 256 * s.dlh.toNat + s.dll.toNat ∧
    (outputs s).divisorFrac = s.dlf ∧ (outputs s).frame = s.lcr.setWidth 7 ∧
    (outputs s).fifoEnable = s.fifoe ∧ (outputs s).modem = s.mcr.setWidth 4) ∧
  ∀ (i : Instr) (s t : State), exec i s = .next t →
    outputs t =
      match i with
      | .wrDll w => { outputs s with divisorInt := s.dlh ++ (w.setWidth 8 : Byte) }
      | .wrDlh w => { outputs s with divisorInt := (w.setWidth 8 : Byte) ++ s.dll }
      | .wrDlf w => { outputs s with divisorFrac := w.setWidth 4 }
      | .wrLcr w => { outputs s with frame := w.setWidth 7 }
      | .wrFcr w => { outputs s with fifoEnable := w.getLsbD 0 }
      | .wrMcr w => { outputs s with modem := w.setWidth 4 }
      | .reset => ⟨0, 0, 0, false, 0⟩
      | _ => outputs s

/-- The configuration state machine (10_state.md R11, 41_divisor_config.md R110): WR_LCR sets `cfg`
by `wdata[7]`, RESET makes it NORMAL, and every other operation leaves it. -/
def Obligations.ConfigurationStateMachine : Prop :=
  ∀ (i : Instr) (s t : State), exec i s = .next t →
    lineMode t =
      match i with
      | .wrLcr w => if w.getLsbD 7 then .divisor else .normal
      | .reset => .normal
      | _ => lineMode s

/-- R113 c of 41_divisor_config.md for the operands of CONFIGURE: with `clock >= 16 × baud > 0` the
integer divisor is at least 1, the fraction fits 4 bits, and together they are
`clock / baud` in sixteenths, rounded down. -/
def Obligations.DivisorArithmeticFits : Prop :=
  ∀ baud clock : Word, 0 < baud.toNat → 16 * baud.toNat ≤ clock.toNat →
    1 ≤ divisorFor baud clock ∧ fracFor baud clock ≤ 15 ∧
    16 * divisorFor baud clock + fracFor baud clock = clock.toNat / baud.toNat ∧
    (divisorFor baud clock < 65536 ↔ clock.toNat < 65536 * 16 * baud.toNat)

/-! ## Control -/

/-- R122 of 42_fifo_modem_control.md: a change of the enable bit empties both FIFOs, each reset bit
empties its FIFO, the four fields are stored, and nothing else changes; the derived flags follow. -/
def Obligations.WriteFifoControl : Prop :=
  ∀ (s : State) (w : Word),
    decode (.bus 0x208 w) = .ok (.wrFcr w) ∧ decode (.bus 0x308 w) = .ok (.wrFcr w) ∧
    ∃ t, exec (.wrFcr w) s = .next t ∧ t = { s with
      txFifo := if w.getLsbD 0 ≠ s.fifoe ∨ w.getLsbD 2 = true then [] else s.txFifo
      rxFifo := if w.getLsbD 0 ≠ s.fifoe ∨ w.getLsbD 1 = true then [] else s.rxFifo
      fifoe := w.getLsbD 0
      dmam := w.getLsbD 3
      tet := w.extractLsb' 4 2
      rt := w.extractLsb' 6 2 } ∧
    (w.getLsbD 0 ≠ s.fifoe ∨ w.getLsbD 2 = true →
      thre t = true ∧ tfe t = true ∧ tfnf t = true ∧ txLevel t = 0 ∧
      (temt t = true ↔ s.txShift = none)) ∧
    (w.getLsbD 0 ≠ s.fifoe ∨ w.getLsbD 1 = true →
      dr t = false ∧ rfne t = false ∧ rff t = false ∧ rxLevel t = 0)

/-- R123 of 42_fifo_modem_control.md: WR_IER is refused with bit 7 set, else stores bits 3:0. -/
def Obligations.WriteInterruptEnable : Prop :=
  ∀ (s : State) (w : Word),
    decode (.bus 0x204 w) = .ok (.wrIer w) ∧
    exec (.wrIer w) s =
      if w.getLsbD 7 then .refused .ptimeUnmodelled
      else .next { s with ier := (w.extractLsb' 0 4).setWidth 8 }

/-- R121 of 42_fifo_modem_control.md: RD_IIR answers some byte and changes nothing of the spec's
state. -/
def Obligations.ReadInterruptIdentification : Prop :=
  ∀ (s : State) (w : Word),
    decode (.bus 0x008 w) = .ok .rdIir ∧ decode (.bus 0x108 w) = .ok .rdIir ∧
    ∃ v : Byte,
      exec .rdIir s = .next { s with replies := s.replies ++ [v.setWidth 32], draws := s.draws + 1 }

/-- R126 of 42_fifo_modem_control.md: WR_MCR is refused with bit 4, 5 or 6 set, else stores
`wdata[6:0]`; bit 7 is dropped. -/
def Obligations.WriteModemControl : Prop :=
  ∀ (s : State) (w : Word),
    decode (.bus 0x210 w) = .ok (.wrMcr w) ∧ decode (.bus 0x310 w) = .ok (.wrMcr w) ∧
    exec (.wrMcr w) s =
      if w.getLsbD 4 ∨ w.getLsbD 5 ∨ w.getLsbD 6 then .refused .modemModeUnmodelled
      else .next { s with mcr := w.setWidth 7 }

/-! ## Status -/

/-- R140 and R141 of 43_status.md: RD_LSR answers the flags as they are before the read, bit 7
being some bit, clears the four latches together, and changes nothing else. -/
def Obligations.ReadLineStatus : Prop :=
  ∀ (s : State) (w : Word),
    decode (.bus 0x014 w) = .ok .rdLsr ∧ decode (.bus 0x114 w) = .ok .rdLsr ∧
    ∃ v : Byte,
      exec .rdLsr s = .next { s with
        oe := false, pe := false, fe := false, bi := false,
        replies := s.replies ++ [v.setWidth 32], draws := s.draws + 1 } ∧
      (v.getLsbD 0 = true ↔ 0 < s.rxFifo.length) ∧ v.getLsbD 1 = s.oe ∧ v.getLsbD 2 = s.pe ∧
      v.getLsbD 3 = s.fe ∧ v.getLsbD 4 = s.bi ∧ (v.getLsbD 5 = true ↔ s.txFifo.length = 0) ∧
      (v.getLsbD 6 = true ↔ s.txFifo.length = 0 ∧ s.txShift = none)

/-- R142 of 43_status.md, with the predicates of R26 of 10_state.md: RD_USR answers the five flags,
every other bit zero, and changes nothing; reading Line Status changes nothing here. -/
def Obligations.ReadUartStatus : Prop :=
  ∀ (s : State) (w : Word),
    decode (.bus 0x07C w) = .ok .rdUsr ∧ decode (.bus 0x17C w) = .ok .rdUsr ∧
    ∃ v : Word,
      exec .rdUsr s = .next { s with replies := s.replies ++ [v] } ∧
      (v.getLsbD 0 = true ↔ 0 < s.txFifo.length ∨ s.txShift ≠ none ∨ s.rxActive = true ∨
        (s.params.busyOnRxData = true ∧ 0 < s.rxFifo.length)) ∧
      (v.getLsbD 1 = true ↔ s.txFifo.length < if s.fifoe then s.params.fifoDepth else 1) ∧
      (v.getLsbD 2 = true ↔ s.txFifo.length = 0) ∧
      (v.getLsbD 3 = true ↔ 0 < s.rxFifo.length) ∧
      (v.getLsbD 4 = true ↔ s.rxFifo.length = if s.fifoe then s.params.fifoDepth else 1) ∧
      (∀ k, 5 ≤ k → v.getLsbD k = false) ∧
      ∃ t, exec .rdLsr s = .next t ∧ usrValue t = usrValue s

/-- R143 of 43_status.md: RD_MSR answers the deltas in bits 3:0 and the inputs in bits 7:4, clears
the deltas, and changes nothing else. -/
def Obligations.ReadModemStatus : Prop :=
  ∀ (s : State) (w : Word),
    decode (.bus 0x018 w) = .ok .rdMsr ∧ decode (.bus 0x118 w) = .ok .rdMsr ∧
    exec .rdMsr s = .next { s with
      msrDelta := 0
      replies := s.replies ++ [BitVec.ofNat 32 (16 * s.msrIn.toNat + s.msrDelta.toNat)] }

/-- R144 and R145 of 43_status.md: RD_TFL and RD_RFL answer the FIFO lengths and change nothing,
for FIFOs that do not hold 2^32 bytes (log 5). -/
def Obligations.ReadFifoLevels : Prop :=
  ∀ (s : State) (w : Word),
    decode (.bus 0x080 w) = .ok .rdTfl ∧ decode (.bus 0x180 w) = .ok .rdTfl ∧
    decode (.bus 0x084 w) = .ok .rdRfl ∧ decode (.bus 0x184 w) = .ok .rdRfl ∧
    (∃ v : Word, exec .rdTfl s = .next { s with replies := s.replies ++ [v] } ∧
      (s.txFifo.length < 2 ^ 32 → v.toNat = s.txFifo.length)) ∧
    (∃ v : Word, exec .rdRfl s = .next { s with replies := s.replies ++ [v] } ∧
      (s.rxFifo.length < 2 ^ 32 → v.toNat = s.rxFifo.length))

/-- R146, R147, R148 of 43_status.md: the component registers answer the chip's constants and change
nothing, and no operation changes the constants. -/
def Obligations.ReadComponentRegisters : Prop :=
  ∀ (s : State) (w : Word),
    decode (.bus 0x0F4 w) = .ok .rdCpr ∧ decode (.bus 0x1F4 w) = .ok .rdCpr ∧
    decode (.bus 0x0F8 w) = .ok .rdUcv ∧ decode (.bus 0x1F8 w) = .ok .rdUcv ∧
    decode (.bus 0x0FC w) = .ok .rdCtr ∧ decode (.bus 0x1FC w) = .ok .rdCtr ∧
    exec .rdCpr s = .next { s with replies := s.replies ++ [s.params.cprValue] } ∧
    exec .rdUcv s = .next { s with replies := s.replies ++ [s.params.ucvValue] } ∧
    exec .rdCtr s = .next { s with replies := s.replies ++ [s.params.ctrValue] } ∧
    (∀ (i : Instr) (t : State), exec i s = .next t →
      t.params.cprValue = s.params.cprValue ∧ t.params.ucvValue = s.params.ucvValue ∧
      t.params.ctrValue = s.params.ctrValue)

/-- R149 of 43_status.md: a write to a read-only register changes nothing. -/
def Obligations.ReadOnlyWritesIgnored : Prop :=
  ∀ (s : State) (w : Word),
    (decode (.bus 0x214 w) = .ok (.wrLsr w) ∧ decode (.bus 0x314 w) = .ok (.wrLsr w) ∧
      exec (.wrLsr w) s = .next s) ∧
    (decode (.bus 0x218 w) = .ok (.wrMsr w) ∧ decode (.bus 0x318 w) = .ok (.wrMsr w) ∧
      exec (.wrMsr w) s = .next s) ∧
    (decode (.bus 0x27C w) = .ok (.wrUsr w) ∧ decode (.bus 0x37C w) = .ok (.wrUsr w) ∧
      exec (.wrUsr w) s = .next s) ∧
    (decode (.bus 0x280 w) = .ok (.wrTfl w) ∧ decode (.bus 0x380 w) = .ok (.wrTfl w) ∧
      exec (.wrTfl w) s = .next s) ∧
    (decode (.bus 0x284 w) = .ok (.wrRfl w) ∧ decode (.bus 0x384 w) = .ok (.wrRfl w) ∧
      exec (.wrRfl w) s = .next s) ∧
    (decode (.bus 0x2F4 w) = .ok (.wrCpr w) ∧ decode (.bus 0x3F4 w) = .ok (.wrCpr w) ∧
      exec (.wrCpr w) s = .next s) ∧
    (decode (.bus 0x2F8 w) = .ok (.wrUcv w) ∧ decode (.bus 0x3F8 w) = .ok (.wrUcv w) ∧
      exec (.wrUcv w) s = .next s) ∧
    (decode (.bus 0x2FC w) = .ok (.wrCtr w) ∧ decode (.bus 0x3FC w) = .ok (.wrCtr w) ∧
      exec (.wrCtr w) s = .next s)

/-- The relations that R150 of 43_status.md draws between the readiness predicates, on the values
that RD_LSR and RD_USR answer in one state. -/
def Obligations.ReadinessRelations : Prop :=
  ∀ s : State, ∃ (lsr usr : Word) (s1 s2 : State),
    exec .rdLsr s = .next s1 ∧ s1.replies = s.replies ++ [lsr] ∧
    exec .rdUsr s = .next s2 ∧ s2.replies = s.replies ++ [usr] ∧
    (txDrained lsr = true → txFifoEmpty lsr = true) ∧
    (txFifoEmpty lsr = true ↔ usr.getLsbD 2 = true) ∧
    (dataReady lsr = true ↔ usr.getLsbD 3 = true) ∧
    (txFifoFull usr = true → txFifoEmpty lsr = false) ∧
    (isBusy usr = false → txDrained lsr = true)

/-- R203 of 60_exceptions.md: `rx_class` takes Break before Framing before Parity before Overrun
before Data-Ready, and bits 5, 6 and 7 do not matter. -/
def Obligations.ReceiveErrorPrecedence : Prop :=
  ∀ v : Byte,
    (rxClass v =
      if v.getLsbD 4 then .breakError
      else if v.getLsbD 3 then .framingError
      else if v.getLsbD 2 then .parityError
      else if v.getLsbD 1 then .overrunError
      else if v.getLsbD 0 then .data
      else .noData) ∧
    rxClass v = rxClass (v &&& 0x1F)

/-- R81 of 30_encoding.md: decomposing a register value into its fields and composing it again
keeps exactly the defined bits. For Line Status R81 leaves the mask 0x7F or 0xFF to whether bit 7 is
kept as a named flag; the model has 0x7F, which is its own choice (log 21, DEDUCED). -/
def Obligations.FlagsRecompose : Prop :=
  ∀ (reg : FlagReg) (v : Byte), recompose reg v = v &&& definedMask reg

/-! ## Events -/

/-- R161 of 44_line_events.md: TX_TAKE, where it is enabled, moves the oldest byte of the transmit
FIFO into the shift stage and changes nothing else; the derived flags follow. -/
def Obligations.TakeTransmitByte : Prop :=
  ∀ (s : State) (b : Byte) (rest : List Byte), s.txFifo = b :: rest → s.txShift = none →
    ∃ t, exec .txTake s = .next t ∧ t = { s with txShift := some b, txFifo := rest } ∧
      txLevel t + 1 = txLevel s ∧ (thre t = true ↔ rest = []) ∧ (tfe t = true ↔ rest = []) ∧
      temt t = false ∧ busy t = true ∧ (txLevel s ≤ txCap s → tfnf t = true)

/-- R162 of 44_line_events.md: TX_DONE, where it is enabled, logs the byte of the shift stage with
the break-control bit, empties the stage and changes nothing else; TEMT is then 1 exactly when the
transmit FIFO is empty. -/
def Obligations.FinishTransmitByte : Prop :=
  ∀ (s : State) (b : Byte), s.txShift = some b →
    ∃ t, exec .txDone s = .next t ∧
      t = { s with txLog := s.txLog ++ [(b, s.lcr.getLsbD 6)], txShift := none } ∧
      (temt t = true ↔ s.txFifo = [])

/-- R163 of 44_line_events.md: RX_START, where it is enabled, sets `rx_active` and changes nothing
else; BUSY is then 1. -/
def Obligations.BeginReceiveCharacter : Prop :=
  ∀ s : State, s.rxActive = false →
    exec .rxStart s = .next { s with rxActive := true } ∧ busy { s with rxActive := true } = true

/-- R164 of 44_line_events.md: RX_CHAR, where it is enabled, latches the flags and stores the byte;
with the FIFO full it latches the overrun, and with the FIFOs disabled overwrites the buffer; data is
then ready in every case. -/
def Obligations.DeliverReceiveCharacter : Prop :=
  ∀ (s : State) (b : Byte) (pe fe bi : Bool), s.rxActive = true →
    ∃ t, exec (.rxChar b pe fe bi) s = .next t ∧ t = { s with
      rxActive := false
      pe := s.pe || pe
      fe := s.fe || fe
      bi := s.bi || bi
      oe := s.oe || decide ((if s.fifoe then s.params.fifoDepth else 1) ≤ s.rxFifo.length)
      rxFifo :=
        if s.rxFifo.length < (if s.fifoe then s.params.fifoDepth else 1) then s.rxFifo ++ [b]
        else if s.fifoe then s.rxFifo
        else [b] } ∧
    dr t = true ∧ rfne t = true

/-- R166 of 44_line_events.md: MODEM_CHANGE stores the new level, sets the delta of every input that
changed, and changes nothing else. -/
def Obligations.ChangeModemLines : Prop :=
  ∀ (s : State) (lines : BitVec 4),
    exec (.modemChange lines) s =
      .next { s with msrIn := lines, msrDelta := s.msrDelta ||| (s.msrIn ^^^ lines) }

/-- R220 of 70_reset_and_hazards.md: RESET gives every element its reset value, the modem inputs
some level. That the parameters, `inbox` and `replies` stay is the model's (log 12). -/
def Obligations.ResetEvent : Prop :=
  ∀ s : State, ∃ lines : BitVec 4,
    exec .reset s = .next {
      params := s.params
      lcr := 0, dll := 0, dlh := 0, dlf := 0, ier := 0
      fifoe := false, dmam := false, tet := 0, rt := 0
      mcr := 0, scr := 0
      txFifo := [], txShift := none, rxFifo := [], rxActive := false
      oe := false, pe := false, fe := false, bi := false
      msrIn := lines, msrDelta := 0, txLog := []
      replies := s.replies, inbox := s.inbox, draws := s.draws + 1 }

/-- An event that is not enabled is no step: the model faults, and it faults nowhere else
(95_test_vectors.md V-D121, V-D122, V-D125, V-D127, V-D128; the fault is the model's, log 6). -/
def Obligations.DisabledEventsFault : Prop :=
  ∀ (i : Instr) (s : State),
    exec i s = .fault .eventNotEnabled ↔
      (i = .txTake ∧ (s.txFifo = [] ∨ s.txShift ≠ none)) ∨ (i = .txDone ∧ s.txShift = none) ∨
      (i = .rxStart ∧ s.rxActive = true) ∨
      (∃ b pe fe bi, i = .rxChar b pe fe bi ∧ s.rxActive = false)

/-! ## Reset -/

/-- The state after reset (70_reset_and_hazards.md R220, the spec's decision D22): the value of
every element of 10_state.md R30 but the modem inputs, whose level is open. -/
def Obligations.ResetStateValues : Prop :=
  State.reset.lcr = 0 ∧ State.reset.dll = 0 ∧ State.reset.dlh = 0 ∧ State.reset.dlf = 0 ∧
  State.reset.ier = 0 ∧ State.reset.fifoe = false ∧ State.reset.dmam = false ∧
  State.reset.tet = 0 ∧ State.reset.rt = 0 ∧ State.reset.mcr = 0 ∧ State.reset.scr = 0 ∧
  State.reset.txFifo = [] ∧ State.reset.txShift = none ∧ State.reset.rxFifo = [] ∧
  State.reset.rxActive = false ∧ State.reset.oe = false ∧ State.reset.pe = false ∧
  State.reset.fe = false ∧ State.reset.bi = false ∧ State.reset.msrDelta = 0 ∧
  State.reset.txLog = []

/-- R221 of 70_reset_and_hazards.md: what the registers read in the reset state, whatever the
parameters of the chip. -/
def Obligations.ResetStateReads : Prop :=
  (∃ t, exec .rdLsr State.reset = .next t ∧ (t.replies = [0x60] ∨ t.replies = [0xE0])) ∧
  (∃ t, exec .rdUsr State.reset = .next t ∧ t.replies = [0x06]) ∧
  (∃ t, exec .rdLcr State.reset = .next t ∧ t.replies = [0x00]) ∧
  (∃ t, exec .rdIer State.reset = .next t ∧ t.replies = [0x00]) ∧
  (∃ t, exec .rdMcr State.reset = .next t ∧ t.replies = [0x00]) ∧
  (∃ t, exec .rdScr State.reset = .next t ∧ t.replies = [0x00]) ∧
  (∃ t, exec .rdTfl State.reset = .next t ∧ t.replies = [0x00]) ∧
  (∃ t, exec .rdRfl State.reset = .next t ∧ t.replies = [0x00]) ∧
  (∃ t v, exec .rdMsr State.reset = .next t ∧ t.replies = [v] ∧ v &&& 0x0F = 0) ∧
  (∃ t, exec (.wrLcr 0x80) State.reset = .next t ∧
    (∃ u, exec .rdDll t = .next u ∧ u.replies = [0x00]) ∧
    (∃ u, exec .rdDlh t = .next u ∧ u.replies = [0x00]) ∧
    (∃ u, exec .rdDlf t = .next u ∧ u.replies = [0x00]))

/-- The state invariants of 10_state.md R31 hold after reset, whatever the parameters of the chip. -/
def Obligations.InvariantsHoldAtReset : Prop := Inv State.reset

/-! ## The whole machine -/

/-- R31 (I-a, I-b, I-c) of 10_state.md: every step keeps the state invariants, from every state that
has them and whatever input is pending. -/
def Obligations.StepKeepsTheInvariants : Prop :=
  ∀ s t : State, Inv s → step s = .next t → Inv t

/-- R31 (I-d) of 10_state.md: when the FIFO enable changes, both FIFOs are empty in the new state. -/
def Obligations.EnableChangeEmptiesFifos : Prop :=
  ∀ (i : Instr) (s t : State), exec i s = .next t → t.fifoe ≠ s.fifoe →
    t.txFifo = [] ∧ t.rxFifo = []

/-- R23 of 10_state.md: the four latches are set by RX_CHAR only, cleared by RD_LSR and RESET only,
each of which clears all four, and are 0 after reset. -/
def Obligations.LatchesAreSticky : Prop :=
  (∀ (i : Instr) (s t : State), exec i s = .next t →
    (i ≠ .rdLsr → i ≠ .reset →
      (s.oe = true → t.oe = true) ∧ (s.pe = true → t.pe = true) ∧ (s.fe = true → t.fe = true) ∧
      (s.bi = true → t.bi = true)) ∧
    ((∀ b pe fe bi, i ≠ .rxChar b pe fe bi) →
      (t.oe = true → s.oe = true) ∧ (t.pe = true → s.pe = true) ∧ (t.fe = true → s.fe = true) ∧
      (t.bi = true → s.bi = true)) ∧
    (i = .rdLsr ∨ i = .reset → t.oe = false ∧ t.pe = false ∧ t.fe = false ∧ t.bi = false)) ∧
  State.reset.oe = false ∧ State.reset.pe = false ∧ State.reset.fe = false ∧ State.reset.bi = false

/-- R29 of 10_state.md: only TX_DONE appends to `tx_log`, the byte it finishes with the break-control
bit of that moment; RESET empties it; nothing else touches it; it is empty after reset. -/
def Obligations.TransmitLogGrowsByTxDoneOnly : Prop :=
  (∀ (i : Instr) (s t : State), exec i s = .next t →
    t.txLog =
      match i with
      | .txDone => s.txLog ++ s.txShift.toList.map (fun b => (b, s.lcr.getLsbD 6))
      | .reset => []
      | _ => s.txLog) ∧
  State.reset.txLog = []

/-- No step changes the parameters of the chip (10_state.md R10: they are no state). -/
def Obligations.ParametersNeverChange : Prop :=
  ∀ s t : State, step s = .next t → t.params = s.params

/-- R94 a of 40_data_path.md, over any run: as long as no operation discards bytes of the transmit
path, the bytes sent, being sent and queued are those there were, followed by the bytes accepted
since, in order. -/
def Obligations.TransmitPathKeepsOrder : Prop :=
  ∀ (ops : List Instr) (s t : State), runOps ops s = .next t → keepsTxAll ops s = true →
    txPath t = txPath s ++ acceptedAll ops s

/-- R94 b and c of 40_data_path.md, for one operation: as long as no byte of the receive FIFO is
discarded, RD_RBR takes from the front what it answers, RX_CHAR adds at the back, and nothing else
touches the FIFO. -/
def Obligations.ReceivePathKeepsOrder : Prop :=
  ∀ (i : Instr) (s t : State), exec i s = .next t → keepsRx i s = true →
    taken i s ++ t.rxFifo = s.rxFifo ++ arrived i s ∧
    (i = .rdRbr → s.rxFifo ≠ [] → t.replies = s.replies ++ (taken i s).map (fun b => b.setWidth 32))

/-- R54 of 20_memory.md: TFNF, once 1, stays 1 until the next WR_THR, and DR, once 1, stays 1 until
an RD_RBR, a WR_FCR that empties the receive FIFO, or RESET. -/
def Obligations.ReadinessPersists : Prop :=
  ∀ (i : Instr) (s t : State), exec i s = .next t →
    ((∀ w, i ≠ .wrThr w) → tfnf s = true → tfnf t = true) ∧
    (i ≠ .rdRbr → i ≠ .reset → (∀ w, i = .wrFcr w → w.getLsbD 0 = s.fifoe ∧ w.getLsbD 1 = false) →
      dr s = true → dr t = true)

/-- R46 of 20_memory.md, its list of the reads without a side effect: each changes nothing but that
it answers, and answers the same when repeated. -/
def Obligations.ThirteenReadsAreRepeatable : Prop :=
  ∀ i ∈ [Instr.rdDll, .rdDlh, .rdDlf, .rdIer, .rdLcr, .rdMcr, .rdScr, .rdUsr, .rdTfl, .rdRfl,
      .rdCpr, .rdUcv, .rdCtr],
    ∀ s : State, ∃ v : Word,
      exec i s = .next { s with replies := s.replies ++ [v] } ∧
      exec i { s with replies := s.replies ++ [v] } =
        .next { s with replies := s.replies ++ [v, v] }

/-- R46 of 20_memory.md, the round trip: in a state with the invariants of R31, writing back the
value read changes nothing, for `lcr`, `mcr`, `ier`, `scr`, `dll`, `dlh` and `dlf`; the
configuration registers while BUSY = 0. -/
def Obligations.WriteBackChangesNothing : Prop :=
  ∀ s : State, Inv s →
    exec (.wrMcr (s.mcr.setWidth 32)) s = .next s ∧ exec (.wrIer (s.ier.setWidth 32)) s = .next s ∧
    exec (.wrScr (s.scr.setWidth 32)) s = .next s ∧
    (busy s = false →
      exec (.wrLcr (s.lcr.setWidth 32)) s = .next s ∧ exec (.wrDll (s.dll.setWidth 32)) s = .next s ∧
      exec (.wrDlh (s.dlh.setWidth 32)) s = .next s ∧ exec (.wrDlf (s.dlf.setWidth 32)) s = .next s)

/-- R242 of 70_reset_and_hazards.md: in a quiescent state no transmit event is enabled, TEMT, THRE,
TFE and TFNF are 1, and BUSY is 0 unless unread receive data holds it. That an event which is not
enabled answers a fault is the model's own (log 6, DEDUCED). -/
def Obligations.QuiescentStateFlags : Prop :=
  ∀ s : State, quiescent s →
    txTakeEnabled s = false ∧ txDoneEnabled s = false ∧
    exec .txTake s = .fault .eventNotEnabled ∧ exec .txDone s = .fault .eventNotEnabled ∧
    temt s = true ∧ thre s = true ∧ tfe s = true ∧ tfnf s = true ∧
    (busy s = true ↔ s.params.busyOnRxData = true ∧ s.rxFifo ≠ [])

/-! ## Host sequences -/

/-- R181 of 45_host_sequences.md: while BUSY = 1 CONFIGURE polls at its first label and changes
nothing; from any state with BUSY = 0, on a quiet line (`hostRun`: no other step between its bus
operations, log 25), it finishes in eight bus operations and leaves the end state that the rule
derives; nothing else changes. For which operands the sequence has a first label is log 17. -/
def Obligations.ConfigureReachesItsEndState : Prop :=
  ∀ (s : State) (baud clock : Word) (pc : HostPc),
    (HostCall.configure baud clock).start = some pc →
    ∃ u : Word,
      (busy s = true → hostStep pc s = .next (pc, { s with replies := s.replies ++ [u] })) ∧
      (busy s = false →
        hostRun 8 pc s = .next (.done .unit, { s with
          lcr := 0x03
          dll := BitVec.ofNat 8 (clock.toNat / (16 * baud.toNat))
          dlh := BitVec.ofNat 8 (clock.toNat / (16 * baud.toNat) / 256)
          dlf := BitVec.ofNat 4 (clock.toNat % (16 * baud.toNat) / baud.toNat)
          fifoe := true, dmam := false, tet := 0, rt := 0
          rxFifo := if s.fifoe then s.rxFifo else []
          replies := s.replies ++ [u, s.lcr.setWidth 32] }))

/-- R183 of 45_host_sequences.md: in the normal window WRITE_WORD goes on spinning while the FIFO is
full, changing nothing, and goes on to its write once it has seen room; that write is accepted from
every state that has room, whatever stood between the two. On a quiet line (`hostRun`: no other step
between the two bus operations, log 25) both together take two operations. -/
def Obligations.WriteWordWaitsForRoom : Prop :=
  ∀ (s : State) (b : Byte), dlab s = false →
    ∃ u : Word,
      (txCap s ≤ s.txFifo.length →
        hostStep (.w0 b) s = .next (.w0 b, { s with replies := s.replies ++ [u] })) ∧
      (s.txFifo.length < txCap s →
        hostStep (.w0 b) s = .next (.w1 b, { s with replies := s.replies ++ [u] }) ∧
        hostStep (.w1 b) s = .next (.done .unit, { s with txFifo := s.txFifo ++ [b] }) ∧
        hostRun 2 (.w0 b) s = .next (.done .unit, { s with
          txFifo := s.txFifo ++ [b], replies := s.replies ++ [u] }))

/-- R184 of 45_host_sequences.md: FLUSH returns at a read exactly when the transmitter is empty, and
each of its reads clears the error latches. -/
def Obligations.FlushReturnsWhenTransmitterEmpty : Prop :=
  ∀ s : State, ∃ u : Word,
    hostStep .f0 s = .next (
      if s.txFifo = [] ∧ s.txShift = none then .done .unit else .f0,
      { s with
        oe := false, pe := false, fe := false, bi := false,
        replies := s.replies ++ [u], draws := s.draws + 1 })

/-- R186 of 45_host_sequences.md: in the normal window READ_WORD returns Break, Framing, Parity or
Overrun by that precedence without reading the receive buffer, no data when the FIFO is empty, and
else goes on to read the buffer; the latches are cleared. That read returns the oldest byte from every
state that has one, whatever stood between the two. On a quiet line (`hostRun`: no other step between
the two bus operations, log 25) both together take two operations. -/
def Obligations.ReadWordClassifiesOnce : Prop :=
  (∀ (s : State) (b : Byte) (rest : List Byte), dlab s = false → s.rxFifo = b :: rest →
    hostStep .r2 s = .next (.done (.readOk (some b)), { s with
      rxFifo := rest, replies := s.replies ++ [b.setWidth 32] })) ∧
  ∀ s : State, dlab s = false → ∃ (u : Word) (t : State),
    t = { s with
      oe := false, pe := false, fe := false, bi := false,
      replies := s.replies ++ [u], draws := s.draws + 1 } ∧
    (if s.bi then hostStep .r0 s = .next (.done (.readError .breakError), t)
    else if s.fe then hostStep .r0 s = .next (.done (.readError .framingError), t)
    else if s.pe then hostStep .r0 s = .next (.done (.readError .parityError), t)
    else if s.oe then hostStep .r0 s = .next (.done (.readError .overrunError), t)
    else
      match s.rxFifo with
      | [] => hostStep .r0 s = .next (.done (.readOk none), t)
      | b :: rest =>
        hostStep .r0 s = .next (.r2, t) ∧
        hostRun 2 .r0 s = .next (.done (.readOk (some b)), { t with
          rxFifo := rest, replies := s.replies ++ [u, b.setWidth 32] }))

/-- R182 and R185 of 45_host_sequences.md: the two queries answer in one bus operation whether the
transmit FIFO is full and whether the receive FIFO is empty, and change nothing. -/
def Obligations.QueriesAnswerWithoutEffect : Prop :=
  ∀ s : State, ∃ u : Word,
    hostStep .t0 s = .next (.done (.bool (decide (txCap s ≤ s.txFifo.length))),
      { s with replies := s.replies ++ [u] }) ∧
    hostStep .e0 s = .next (.done (.bool (decide (s.rxFifo = []))),
      { s with replies := s.replies ++ [u] })

/-- R188 of 45_host_sequences.md and R210 to R212 of 60_exceptions.md. In a well-formed set of host
threads a shared view that is in a call issues RD_USR or RD_LSR and is answered in every state of the
block; between its calls it may make the shared calls and issue those two reads, and neither an
exclusive call nor another operation. Whatever it does, it changes of the block nothing but the four
error latches, which it can only clear (and what it is answered). That the model refuses the rest, and
an ill-formed set of threads, is log 18; that a thread acts as the schedule says is log 30. -/
def Obligations.SharedViewTouchesOnlyLatches : Prop :=
  (∀ (h : HostSystem) (n : Nat) (th : HostThread) (x : Input),
    h.wellFormed = true → h.threads[n]? = some th → th.cls = .view → th.pc.access = some x →
    ∃ i t, nextInstr h.dev x = .ok i ∧ (i = .rdUsr ∨ i = .rdLsr) ∧ exec i h.dev = .next t ∧
      h.step (.thread n) =
        .next ⟨t, h.threads.set n ⟨.view, th.pc.resume (lastReply t)⟩⟩) ∧
  (∀ (h : HostSystem) (n : Nat) (th : HostThread) (wr : Bool) (offset width : Nat) (w : Word)
      (i : Instr),
    h.oneOwner = true → h.threads[n]? = some th → th.cls = .view → th.pc.call = none →
    nextInstr h.dev (.access wr offset width w) = .ok i →
    (i = .rdUsr ∨ i = .rdLsr →
      ∃ t, exec i h.dev = .next t ∧
        h.step (.act n (.issue wr offset width w)) =
          .next ⟨t, h.threads.set n ⟨.view, .done (.value (lastReply t))⟩⟩) ∧
    (i ≠ .rdUsr → i ≠ .rdLsr →
      h.step (.act n (.issue wr offset width w)) = .refused .outsideClass)) ∧
  (∀ (h : HostSystem) (n : Nat) (th : HostThread) (c : HostCall),
    h.threads[n]? = some th → th.cls = .view → th.pc.call = none →
    (c.accessClass = .view →
      ∃ pc, c.start = some pc ∧
        h.step (.act n (.call c)) = .next ⟨h.dev, h.threads.set n ⟨.view, pc⟩⟩) ∧
    (c.accessClass = .owner → h.step (.act n (.call c)) = .refused .outsideClass)) ∧
  (∀ (h : HostSystem) (n : Nat) (th : HostThread) (x : Input) (i : Instr),
    h.oneOwner = true → h.threads[n]? = some th → th.cls = .view → th.pc.access = some x →
    nextInstr h.dev x = .ok i → i ≠ .rdUsr → i ≠ .rdLsr →
    h.step (.thread n) = .refused .outsideClass) ∧
  ∀ (h h' : HostSystem) (n : Nat) (th : HostThread) (turn : Turn),
    h.threads[n]? = some th → th.cls = .view → (turn = .thread n ∨ ∃ a, turn = .act n a) →
    h.step turn = .next h' →
    h'.dev = { h.dev with
      oe := h'.dev.oe, pe := h'.dev.pe, fe := h'.dev.fe, bi := h'.dev.bi,
      replies := h'.dev.replies, draws := h'.dev.draws } ∧
    (h'.dev.oe = true → h.dev.oe = true) ∧ (h'.dev.pe = true → h.dev.pe = true) ∧
    (h'.dev.fe = true → h.dev.fe = true) ∧ (h'.dev.bi = true → h.dev.bi = true)

/-! ## Progress -/

/-- R169 of 44_line_events.md: on a run with a fair transmit engine and a divisor that is not zero,
once no WR_THR and no RESET occurs any more, TEMT becomes 1 and stays 1. Fairness is a premise
(log 19). -/
def Obligations.FairRunDrainsTheTransmitter : Prop :=
  ∀ (r : Run) (n : Nat), r.fair →
    (∀ m, n ≤ m → (∀ w, r.op m ≠ .wrThr w) ∧ r.op m ≠ .reset ∧ divisorInt (r.state m) ≠ 0) →
    ∃ m, n ≤ m ∧ ∀ k, m ≤ k → temt (r.state k) = true
end

