-- ==== Sys2Proof/Laws/Decode.lean ====
section
/-! SUPPORT. The decode key and its fields, and the decoder on a key built from its fields. -/

namespace Sys2Proof

@[simp] theorem keyWr_keyOf (wr dlab : Bool) (offset : Byte) : keyWr (keyOf wr dlab offset) = wr := by
  cases wr <;> cases dlab <;> simp [keyWr, keyOf]

@[simp] theorem keyDlab_keyOf (wr dlab : Bool) (offset : Byte) :
    keyDlab (keyOf wr dlab offset) = dlab := by
  cases wr <;> cases dlab <;> simp [keyDlab, keyOf]

@[simp] theorem keyOffset_keyOf (wr dlab : Bool) (offset : Byte) :
    keyOffset (keyOf wr dlab offset) = offset := by
  apply BitVec.eq_of_getLsbD_eq
  intro i hi
  cases wr <;> cases dlab <;> interval_cases i <;> simp [keyOffset, keyOf]

/-- A key is its three fields (30_encoding.md R60). -/
@[simp] theorem keyOf_fields (key : BitVec 10) :
    keyOf (keyWr key) (keyDlab key) (keyOffset key) = key := by
  apply BitVec.eq_of_getLsbD_eq
  intro i hi
  simp only [keyOf, keyWr, keyDlab, keyOffset, BitVec.getLsbD_or, BitVec.getLsbD_shiftLeft,
    BitVec.getLsbD_setWidth, BitVec.getLsbD_extractLsb', BitVec.getLsbD_ofBool]
  interval_cases i <;> simp

/-- What `decodeBus` can answer, said by the first row that a key hits. -/
theorem decodeBus_ok {key : BitVec 10} {w : Word} {i : Instr} (h : decodeBus key w = .ok i) :
    (keyOffset key).toNat % 4 = 0 ∧
      ((∃ row ∈ busTable, row.hits key = true ∧ i = row.build w) ∨
        ((∀ row ∈ busTable, row.hits key = false) ∧ i = fallback key w)) := by
  unfold decodeBus at h
  split at h
  · cases h
  · refine ⟨by omega, ?_⟩
    split at h
    · next row hr =>
      have := List.find?_some hr
      exact .inl ⟨row, List.mem_of_find?_eq_some hr, this, by simpa using h.symm⟩
    · next hn =>
      refine .inr ⟨fun row hm => ?_, by simpa using h.symm⟩
      simpa using List.find?_eq_none.1 hn row hm

end Sys2Proof
end

