-- ==== Sys2Proof/Laws/State.lean ====
section
/-! SUPPORT. What each named update of the state leaves in each field: one lemma for each field and
update, so that no later proof unfolds an update. -/

namespace Sys2Proof.Machine

/-! ### reply -/

@[simp] theorem reply_params (v : Word) (s : State) : (reply v s).params = s.params := rfl
@[simp] theorem reply_lcr (v : Word) (s : State) : (reply v s).lcr = s.lcr := rfl
@[simp] theorem reply_dll (v : Word) (s : State) : (reply v s).dll = s.dll := rfl
@[simp] theorem reply_dlh (v : Word) (s : State) : (reply v s).dlh = s.dlh := rfl
@[simp] theorem reply_dlf (v : Word) (s : State) : (reply v s).dlf = s.dlf := rfl
@[simp] theorem reply_ier (v : Word) (s : State) : (reply v s).ier = s.ier := rfl
@[simp] theorem reply_fifoe (v : Word) (s : State) : (reply v s).fifoe = s.fifoe := rfl
@[simp] theorem reply_dmam (v : Word) (s : State) : (reply v s).dmam = s.dmam := rfl
@[simp] theorem reply_tet (v : Word) (s : State) : (reply v s).tet = s.tet := rfl
@[simp] theorem reply_rt (v : Word) (s : State) : (reply v s).rt = s.rt := rfl
@[simp] theorem reply_mcr (v : Word) (s : State) : (reply v s).mcr = s.mcr := rfl
@[simp] theorem reply_scr (v : Word) (s : State) : (reply v s).scr = s.scr := rfl
@[simp] theorem reply_txFifo (v : Word) (s : State) : (reply v s).txFifo = s.txFifo := rfl
@[simp] theorem reply_txShift (v : Word) (s : State) : (reply v s).txShift = s.txShift := rfl
@[simp] theorem reply_rxFifo (v : Word) (s : State) : (reply v s).rxFifo = s.rxFifo := rfl
@[simp] theorem reply_rxActive (v : Word) (s : State) : (reply v s).rxActive = s.rxActive := rfl
@[simp] theorem reply_oe (v : Word) (s : State) : (reply v s).oe = s.oe := rfl
@[simp] theorem reply_pe (v : Word) (s : State) : (reply v s).pe = s.pe := rfl
@[simp] theorem reply_fe (v : Word) (s : State) : (reply v s).fe = s.fe := rfl
@[simp] theorem reply_bi (v : Word) (s : State) : (reply v s).bi = s.bi := rfl
@[simp] theorem reply_msrIn (v : Word) (s : State) : (reply v s).msrIn = s.msrIn := rfl
@[simp] theorem reply_msrDelta (v : Word) (s : State) : (reply v s).msrDelta = s.msrDelta := rfl
@[simp] theorem reply_txLog (v : Word) (s : State) : (reply v s).txLog = s.txLog := rfl
@[simp] theorem reply_replies (v : Word) (s : State) : (reply v s).replies = s.replies ++ [v] := rfl
@[simp] theorem reply_inbox (v : Word) (s : State) : (reply v s).inbox = s.inbox := rfl
@[simp] theorem reply_draws (v : Word) (s : State) : (reply v s).draws = s.draws := rfl

/-! ### useDraw -/

@[simp] theorem useDraw_params (s : State) : (useDraw s).params = s.params := rfl
@[simp] theorem useDraw_lcr (s : State) : (useDraw s).lcr = s.lcr := rfl
@[simp] theorem useDraw_dll (s : State) : (useDraw s).dll = s.dll := rfl
@[simp] theorem useDraw_dlh (s : State) : (useDraw s).dlh = s.dlh := rfl
@[simp] theorem useDraw_dlf (s : State) : (useDraw s).dlf = s.dlf := rfl
@[simp] theorem useDraw_ier (s : State) : (useDraw s).ier = s.ier := rfl
@[simp] theorem useDraw_fifoe (s : State) : (useDraw s).fifoe = s.fifoe := rfl
@[simp] theorem useDraw_dmam (s : State) : (useDraw s).dmam = s.dmam := rfl
@[simp] theorem useDraw_tet (s : State) : (useDraw s).tet = s.tet := rfl
@[simp] theorem useDraw_rt (s : State) : (useDraw s).rt = s.rt := rfl
@[simp] theorem useDraw_mcr (s : State) : (useDraw s).mcr = s.mcr := rfl
@[simp] theorem useDraw_scr (s : State) : (useDraw s).scr = s.scr := rfl
@[simp] theorem useDraw_txFifo (s : State) : (useDraw s).txFifo = s.txFifo := rfl
@[simp] theorem useDraw_txShift (s : State) : (useDraw s).txShift = s.txShift := rfl
@[simp] theorem useDraw_rxFifo (s : State) : (useDraw s).rxFifo = s.rxFifo := rfl
@[simp] theorem useDraw_rxActive (s : State) : (useDraw s).rxActive = s.rxActive := rfl
@[simp] theorem useDraw_oe (s : State) : (useDraw s).oe = s.oe := rfl
@[simp] theorem useDraw_pe (s : State) : (useDraw s).pe = s.pe := rfl
@[simp] theorem useDraw_fe (s : State) : (useDraw s).fe = s.fe := rfl
@[simp] theorem useDraw_bi (s : State) : (useDraw s).bi = s.bi := rfl
@[simp] theorem useDraw_msrIn (s : State) : (useDraw s).msrIn = s.msrIn := rfl
@[simp] theorem useDraw_msrDelta (s : State) : (useDraw s).msrDelta = s.msrDelta := rfl
@[simp] theorem useDraw_txLog (s : State) : (useDraw s).txLog = s.txLog := rfl
@[simp] theorem useDraw_replies (s : State) : (useDraw s).replies = s.replies := rfl
@[simp] theorem useDraw_inbox (s : State) : (useDraw s).inbox = s.inbox := rfl
@[simp] theorem useDraw_draws (s : State) : (useDraw s).draws = s.draws + 1 := rfl

/-! ### takeTx -/

@[simp] theorem takeTx_params (s : State) : (takeTx s).params = s.params := rfl
@[simp] theorem takeTx_lcr (s : State) : (takeTx s).lcr = s.lcr := rfl
@[simp] theorem takeTx_dll (s : State) : (takeTx s).dll = s.dll := rfl
@[simp] theorem takeTx_dlh (s : State) : (takeTx s).dlh = s.dlh := rfl
@[simp] theorem takeTx_dlf (s : State) : (takeTx s).dlf = s.dlf := rfl
@[simp] theorem takeTx_ier (s : State) : (takeTx s).ier = s.ier := rfl
@[simp] theorem takeTx_fifoe (s : State) : (takeTx s).fifoe = s.fifoe := rfl
@[simp] theorem takeTx_dmam (s : State) : (takeTx s).dmam = s.dmam := rfl
@[simp] theorem takeTx_tet (s : State) : (takeTx s).tet = s.tet := rfl
@[simp] theorem takeTx_rt (s : State) : (takeTx s).rt = s.rt := rfl
@[simp] theorem takeTx_mcr (s : State) : (takeTx s).mcr = s.mcr := rfl
@[simp] theorem takeTx_scr (s : State) : (takeTx s).scr = s.scr := rfl
@[simp] theorem takeTx_txFifo (s : State) : (takeTx s).txFifo = s.txFifo.tail := rfl
@[simp] theorem takeTx_txShift (s : State) : (takeTx s).txShift = s.txFifo.head? := rfl
@[simp] theorem takeTx_rxFifo (s : State) : (takeTx s).rxFifo = s.rxFifo := rfl
@[simp] theorem takeTx_rxActive (s : State) : (takeTx s).rxActive = s.rxActive := rfl
@[simp] theorem takeTx_oe (s : State) : (takeTx s).oe = s.oe := rfl
@[simp] theorem takeTx_pe (s : State) : (takeTx s).pe = s.pe := rfl
@[simp] theorem takeTx_fe (s : State) : (takeTx s).fe = s.fe := rfl
@[simp] theorem takeTx_bi (s : State) : (takeTx s).bi = s.bi := rfl
@[simp] theorem takeTx_msrIn (s : State) : (takeTx s).msrIn = s.msrIn := rfl
@[simp] theorem takeTx_msrDelta (s : State) : (takeTx s).msrDelta = s.msrDelta := rfl
@[simp] theorem takeTx_txLog (s : State) : (takeTx s).txLog = s.txLog := rfl
@[simp] theorem takeTx_replies (s : State) : (takeTx s).replies = s.replies := rfl
@[simp] theorem takeTx_inbox (s : State) : (takeTx s).inbox = s.inbox := rfl
@[simp] theorem takeTx_draws (s : State) : (takeTx s).draws = s.draws := rfl

/-! ### finishTx -/

@[simp] theorem finishTx_params (s : State) : (finishTx s).params = s.params := rfl
@[simp] theorem finishTx_lcr (s : State) : (finishTx s).lcr = s.lcr := rfl
@[simp] theorem finishTx_dll (s : State) : (finishTx s).dll = s.dll := rfl
@[simp] theorem finishTx_dlh (s : State) : (finishTx s).dlh = s.dlh := rfl
@[simp] theorem finishTx_dlf (s : State) : (finishTx s).dlf = s.dlf := rfl
@[simp] theorem finishTx_ier (s : State) : (finishTx s).ier = s.ier := rfl
@[simp] theorem finishTx_fifoe (s : State) : (finishTx s).fifoe = s.fifoe := rfl
@[simp] theorem finishTx_dmam (s : State) : (finishTx s).dmam = s.dmam := rfl
@[simp] theorem finishTx_tet (s : State) : (finishTx s).tet = s.tet := rfl
@[simp] theorem finishTx_rt (s : State) : (finishTx s).rt = s.rt := rfl
@[simp] theorem finishTx_mcr (s : State) : (finishTx s).mcr = s.mcr := rfl
@[simp] theorem finishTx_scr (s : State) : (finishTx s).scr = s.scr := rfl
@[simp] theorem finishTx_txFifo (s : State) : (finishTx s).txFifo = s.txFifo := rfl
@[simp] theorem finishTx_txShift (s : State) : (finishTx s).txShift = none := rfl
@[simp] theorem finishTx_rxFifo (s : State) : (finishTx s).rxFifo = s.rxFifo := rfl
@[simp] theorem finishTx_rxActive (s : State) : (finishTx s).rxActive = s.rxActive := rfl
@[simp] theorem finishTx_oe (s : State) : (finishTx s).oe = s.oe := rfl
@[simp] theorem finishTx_pe (s : State) : (finishTx s).pe = s.pe := rfl
@[simp] theorem finishTx_fe (s : State) : (finishTx s).fe = s.fe := rfl
@[simp] theorem finishTx_bi (s : State) : (finishTx s).bi = s.bi := rfl
@[simp] theorem finishTx_msrIn (s : State) : (finishTx s).msrIn = s.msrIn := rfl
@[simp] theorem finishTx_msrDelta (s : State) : (finishTx s).msrDelta = s.msrDelta := rfl
@[simp] theorem finishTx_txLog (s : State) : (finishTx s).txLog = s.txLog ++ s.txShift.toList.map (fun b => (b, s.lcr.getLsbD 6)) := rfl
@[simp] theorem finishTx_replies (s : State) : (finishTx s).replies = s.replies := rfl
@[simp] theorem finishTx_inbox (s : State) : (finishTx s).inbox = s.inbox := rfl
@[simp] theorem finishTx_draws (s : State) : (finishTx s).draws = s.draws := rfl

/-! ### emptyTx -/

@[simp] theorem emptyTx_params (s : State) : (emptyTx s).params = s.params := rfl
@[simp] theorem emptyTx_lcr (s : State) : (emptyTx s).lcr = s.lcr := rfl
@[simp] theorem emptyTx_dll (s : State) : (emptyTx s).dll = s.dll := rfl
@[simp] theorem emptyTx_dlh (s : State) : (emptyTx s).dlh = s.dlh := rfl
@[simp] theorem emptyTx_dlf (s : State) : (emptyTx s).dlf = s.dlf := rfl
@[simp] theorem emptyTx_ier (s : State) : (emptyTx s).ier = s.ier := rfl
@[simp] theorem emptyTx_fifoe (s : State) : (emptyTx s).fifoe = s.fifoe := rfl
@[simp] theorem emptyTx_dmam (s : State) : (emptyTx s).dmam = s.dmam := rfl
@[simp] theorem emptyTx_tet (s : State) : (emptyTx s).tet = s.tet := rfl
@[simp] theorem emptyTx_rt (s : State) : (emptyTx s).rt = s.rt := rfl
@[simp] theorem emptyTx_mcr (s : State) : (emptyTx s).mcr = s.mcr := rfl
@[simp] theorem emptyTx_scr (s : State) : (emptyTx s).scr = s.scr := rfl
@[simp] theorem emptyTx_txFifo (s : State) : (emptyTx s).txFifo = [] := rfl
@[simp] theorem emptyTx_txShift (s : State) : (emptyTx s).txShift = s.txShift := rfl
@[simp] theorem emptyTx_rxFifo (s : State) : (emptyTx s).rxFifo = s.rxFifo := rfl
@[simp] theorem emptyTx_rxActive (s : State) : (emptyTx s).rxActive = s.rxActive := rfl
@[simp] theorem emptyTx_oe (s : State) : (emptyTx s).oe = s.oe := rfl
@[simp] theorem emptyTx_pe (s : State) : (emptyTx s).pe = s.pe := rfl
@[simp] theorem emptyTx_fe (s : State) : (emptyTx s).fe = s.fe := rfl
@[simp] theorem emptyTx_bi (s : State) : (emptyTx s).bi = s.bi := rfl
@[simp] theorem emptyTx_msrIn (s : State) : (emptyTx s).msrIn = s.msrIn := rfl
@[simp] theorem emptyTx_msrDelta (s : State) : (emptyTx s).msrDelta = s.msrDelta := rfl
@[simp] theorem emptyTx_txLog (s : State) : (emptyTx s).txLog = s.txLog := rfl
@[simp] theorem emptyTx_replies (s : State) : (emptyTx s).replies = s.replies := rfl
@[simp] theorem emptyTx_inbox (s : State) : (emptyTx s).inbox = s.inbox := rfl
@[simp] theorem emptyTx_draws (s : State) : (emptyTx s).draws = s.draws := rfl

/-! ### popRx -/

@[simp] theorem popRx_params (s : State) : (popRx s).params = s.params := rfl
@[simp] theorem popRx_lcr (s : State) : (popRx s).lcr = s.lcr := rfl
@[simp] theorem popRx_dll (s : State) : (popRx s).dll = s.dll := rfl
@[simp] theorem popRx_dlh (s : State) : (popRx s).dlh = s.dlh := rfl
@[simp] theorem popRx_dlf (s : State) : (popRx s).dlf = s.dlf := rfl
@[simp] theorem popRx_ier (s : State) : (popRx s).ier = s.ier := rfl
@[simp] theorem popRx_fifoe (s : State) : (popRx s).fifoe = s.fifoe := rfl
@[simp] theorem popRx_dmam (s : State) : (popRx s).dmam = s.dmam := rfl
@[simp] theorem popRx_tet (s : State) : (popRx s).tet = s.tet := rfl
@[simp] theorem popRx_rt (s : State) : (popRx s).rt = s.rt := rfl
@[simp] theorem popRx_mcr (s : State) : (popRx s).mcr = s.mcr := rfl
@[simp] theorem popRx_scr (s : State) : (popRx s).scr = s.scr := rfl
@[simp] theorem popRx_txFifo (s : State) : (popRx s).txFifo = s.txFifo := rfl
@[simp] theorem popRx_txShift (s : State) : (popRx s).txShift = s.txShift := rfl
@[simp] theorem popRx_rxFifo (s : State) : (popRx s).rxFifo = s.rxFifo.tail := rfl
@[simp] theorem popRx_rxActive (s : State) : (popRx s).rxActive = s.rxActive := rfl
@[simp] theorem popRx_oe (s : State) : (popRx s).oe = s.oe := rfl
@[simp] theorem popRx_pe (s : State) : (popRx s).pe = s.pe := rfl
@[simp] theorem popRx_fe (s : State) : (popRx s).fe = s.fe := rfl
@[simp] theorem popRx_bi (s : State) : (popRx s).bi = s.bi := rfl
@[simp] theorem popRx_msrIn (s : State) : (popRx s).msrIn = s.msrIn := rfl
@[simp] theorem popRx_msrDelta (s : State) : (popRx s).msrDelta = s.msrDelta := rfl
@[simp] theorem popRx_txLog (s : State) : (popRx s).txLog = s.txLog := rfl
@[simp] theorem popRx_replies (s : State) : (popRx s).replies = s.replies := rfl
@[simp] theorem popRx_inbox (s : State) : (popRx s).inbox = s.inbox := rfl
@[simp] theorem popRx_draws (s : State) : (popRx s).draws = s.draws := rfl

/-! ### emptyRx -/

@[simp] theorem emptyRx_params (s : State) : (emptyRx s).params = s.params := rfl
@[simp] theorem emptyRx_lcr (s : State) : (emptyRx s).lcr = s.lcr := rfl
@[simp] theorem emptyRx_dll (s : State) : (emptyRx s).dll = s.dll := rfl
@[simp] theorem emptyRx_dlh (s : State) : (emptyRx s).dlh = s.dlh := rfl
@[simp] theorem emptyRx_dlf (s : State) : (emptyRx s).dlf = s.dlf := rfl
@[simp] theorem emptyRx_ier (s : State) : (emptyRx s).ier = s.ier := rfl
@[simp] theorem emptyRx_fifoe (s : State) : (emptyRx s).fifoe = s.fifoe := rfl
@[simp] theorem emptyRx_dmam (s : State) : (emptyRx s).dmam = s.dmam := rfl
@[simp] theorem emptyRx_tet (s : State) : (emptyRx s).tet = s.tet := rfl
@[simp] theorem emptyRx_rt (s : State) : (emptyRx s).rt = s.rt := rfl
@[simp] theorem emptyRx_mcr (s : State) : (emptyRx s).mcr = s.mcr := rfl
@[simp] theorem emptyRx_scr (s : State) : (emptyRx s).scr = s.scr := rfl
@[simp] theorem emptyRx_txFifo (s : State) : (emptyRx s).txFifo = s.txFifo := rfl
@[simp] theorem emptyRx_txShift (s : State) : (emptyRx s).txShift = s.txShift := rfl
@[simp] theorem emptyRx_rxFifo (s : State) : (emptyRx s).rxFifo = [] := rfl
@[simp] theorem emptyRx_rxActive (s : State) : (emptyRx s).rxActive = s.rxActive := rfl
@[simp] theorem emptyRx_oe (s : State) : (emptyRx s).oe = s.oe := rfl
@[simp] theorem emptyRx_pe (s : State) : (emptyRx s).pe = s.pe := rfl
@[simp] theorem emptyRx_fe (s : State) : (emptyRx s).fe = s.fe := rfl
@[simp] theorem emptyRx_bi (s : State) : (emptyRx s).bi = s.bi := rfl
@[simp] theorem emptyRx_msrIn (s : State) : (emptyRx s).msrIn = s.msrIn := rfl
@[simp] theorem emptyRx_msrDelta (s : State) : (emptyRx s).msrDelta = s.msrDelta := rfl
@[simp] theorem emptyRx_txLog (s : State) : (emptyRx s).txLog = s.txLog := rfl
@[simp] theorem emptyRx_replies (s : State) : (emptyRx s).replies = s.replies := rfl
@[simp] theorem emptyRx_inbox (s : State) : (emptyRx s).inbox = s.inbox := rfl
@[simp] theorem emptyRx_draws (s : State) : (emptyRx s).draws = s.draws := rfl

/-! ### setRxActive -/

@[simp] theorem setRxActive_params (b : Bool) (s : State) : (setRxActive b s).params = s.params := rfl
@[simp] theorem setRxActive_lcr (b : Bool) (s : State) : (setRxActive b s).lcr = s.lcr := rfl
@[simp] theorem setRxActive_dll (b : Bool) (s : State) : (setRxActive b s).dll = s.dll := rfl
@[simp] theorem setRxActive_dlh (b : Bool) (s : State) : (setRxActive b s).dlh = s.dlh := rfl
@[simp] theorem setRxActive_dlf (b : Bool) (s : State) : (setRxActive b s).dlf = s.dlf := rfl
@[simp] theorem setRxActive_ier (b : Bool) (s : State) : (setRxActive b s).ier = s.ier := rfl
@[simp] theorem setRxActive_fifoe (b : Bool) (s : State) : (setRxActive b s).fifoe = s.fifoe := rfl
@[simp] theorem setRxActive_dmam (b : Bool) (s : State) : (setRxActive b s).dmam = s.dmam := rfl
@[simp] theorem setRxActive_tet (b : Bool) (s : State) : (setRxActive b s).tet = s.tet := rfl
@[simp] theorem setRxActive_rt (b : Bool) (s : State) : (setRxActive b s).rt = s.rt := rfl
@[simp] theorem setRxActive_mcr (b : Bool) (s : State) : (setRxActive b s).mcr = s.mcr := rfl
@[simp] theorem setRxActive_scr (b : Bool) (s : State) : (setRxActive b s).scr = s.scr := rfl
@[simp] theorem setRxActive_txFifo (b : Bool) (s : State) : (setRxActive b s).txFifo = s.txFifo := rfl
@[simp] theorem setRxActive_txShift (b : Bool) (s : State) : (setRxActive b s).txShift = s.txShift := rfl
@[simp] theorem setRxActive_rxFifo (b : Bool) (s : State) : (setRxActive b s).rxFifo = s.rxFifo := rfl
@[simp] theorem setRxActive_rxActive (b : Bool) (s : State) : (setRxActive b s).rxActive = b := rfl
@[simp] theorem setRxActive_oe (b : Bool) (s : State) : (setRxActive b s).oe = s.oe := rfl
@[simp] theorem setRxActive_pe (b : Bool) (s : State) : (setRxActive b s).pe = s.pe := rfl
@[simp] theorem setRxActive_fe (b : Bool) (s : State) : (setRxActive b s).fe = s.fe := rfl
@[simp] theorem setRxActive_bi (b : Bool) (s : State) : (setRxActive b s).bi = s.bi := rfl
@[simp] theorem setRxActive_msrIn (b : Bool) (s : State) : (setRxActive b s).msrIn = s.msrIn := rfl
@[simp] theorem setRxActive_msrDelta (b : Bool) (s : State) : (setRxActive b s).msrDelta = s.msrDelta := rfl
@[simp] theorem setRxActive_txLog (b : Bool) (s : State) : (setRxActive b s).txLog = s.txLog := rfl
@[simp] theorem setRxActive_replies (b : Bool) (s : State) : (setRxActive b s).replies = s.replies := rfl
@[simp] theorem setRxActive_inbox (b : Bool) (s : State) : (setRxActive b s).inbox = s.inbox := rfl
@[simp] theorem setRxActive_draws (b : Bool) (s : State) : (setRxActive b s).draws = s.draws := rfl

/-! ### latchErrors -/

@[simp] theorem latchErrors_params (pe fe bi : Bool) (s : State) : (latchErrors pe fe bi s).params = s.params := rfl
@[simp] theorem latchErrors_lcr (pe fe bi : Bool) (s : State) : (latchErrors pe fe bi s).lcr = s.lcr := rfl
@[simp] theorem latchErrors_dll (pe fe bi : Bool) (s : State) : (latchErrors pe fe bi s).dll = s.dll := rfl
@[simp] theorem latchErrors_dlh (pe fe bi : Bool) (s : State) : (latchErrors pe fe bi s).dlh = s.dlh := rfl
@[simp] theorem latchErrors_dlf (pe fe bi : Bool) (s : State) : (latchErrors pe fe bi s).dlf = s.dlf := rfl
@[simp] theorem latchErrors_ier (pe fe bi : Bool) (s : State) : (latchErrors pe fe bi s).ier = s.ier := rfl
@[simp] theorem latchErrors_fifoe (pe fe bi : Bool) (s : State) : (latchErrors pe fe bi s).fifoe = s.fifoe := rfl
@[simp] theorem latchErrors_dmam (pe fe bi : Bool) (s : State) : (latchErrors pe fe bi s).dmam = s.dmam := rfl
@[simp] theorem latchErrors_tet (pe fe bi : Bool) (s : State) : (latchErrors pe fe bi s).tet = s.tet := rfl
@[simp] theorem latchErrors_rt (pe fe bi : Bool) (s : State) : (latchErrors pe fe bi s).rt = s.rt := rfl
@[simp] theorem latchErrors_mcr (pe fe bi : Bool) (s : State) : (latchErrors pe fe bi s).mcr = s.mcr := rfl
@[simp] theorem latchErrors_scr (pe fe bi : Bool) (s : State) : (latchErrors pe fe bi s).scr = s.scr := rfl
@[simp] theorem latchErrors_txFifo (pe fe bi : Bool) (s : State) : (latchErrors pe fe bi s).txFifo = s.txFifo := rfl
@[simp] theorem latchErrors_txShift (pe fe bi : Bool) (s : State) : (latchErrors pe fe bi s).txShift = s.txShift := rfl
@[simp] theorem latchErrors_rxFifo (pe fe bi : Bool) (s : State) : (latchErrors pe fe bi s).rxFifo = s.rxFifo := rfl
@[simp] theorem latchErrors_rxActive (pe fe bi : Bool) (s : State) : (latchErrors pe fe bi s).rxActive = s.rxActive := rfl
@[simp] theorem latchErrors_oe (pe fe bi : Bool) (s : State) : (latchErrors pe fe bi s).oe = s.oe := rfl
@[simp] theorem latchErrors_pe (pe fe bi : Bool) (s : State) : (latchErrors pe fe bi s).pe = (s.pe || pe) := rfl
@[simp] theorem latchErrors_fe (pe fe bi : Bool) (s : State) : (latchErrors pe fe bi s).fe = (s.fe || fe) := rfl
@[simp] theorem latchErrors_bi (pe fe bi : Bool) (s : State) : (latchErrors pe fe bi s).bi = (s.bi || bi) := rfl
@[simp] theorem latchErrors_msrIn (pe fe bi : Bool) (s : State) : (latchErrors pe fe bi s).msrIn = s.msrIn := rfl
@[simp] theorem latchErrors_msrDelta (pe fe bi : Bool) (s : State) : (latchErrors pe fe bi s).msrDelta = s.msrDelta := rfl
@[simp] theorem latchErrors_txLog (pe fe bi : Bool) (s : State) : (latchErrors pe fe bi s).txLog = s.txLog := rfl
@[simp] theorem latchErrors_replies (pe fe bi : Bool) (s : State) : (latchErrors pe fe bi s).replies = s.replies := rfl
@[simp] theorem latchErrors_inbox (pe fe bi : Bool) (s : State) : (latchErrors pe fe bi s).inbox = s.inbox := rfl
@[simp] theorem latchErrors_draws (pe fe bi : Bool) (s : State) : (latchErrors pe fe bi s).draws = s.draws := rfl

/-! ### clearErrors -/

@[simp] theorem clearErrors_params (s : State) : (clearErrors s).params = s.params := rfl
@[simp] theorem clearErrors_lcr (s : State) : (clearErrors s).lcr = s.lcr := rfl
@[simp] theorem clearErrors_dll (s : State) : (clearErrors s).dll = s.dll := rfl
@[simp] theorem clearErrors_dlh (s : State) : (clearErrors s).dlh = s.dlh := rfl
@[simp] theorem clearErrors_dlf (s : State) : (clearErrors s).dlf = s.dlf := rfl
@[simp] theorem clearErrors_ier (s : State) : (clearErrors s).ier = s.ier := rfl
@[simp] theorem clearErrors_fifoe (s : State) : (clearErrors s).fifoe = s.fifoe := rfl
@[simp] theorem clearErrors_dmam (s : State) : (clearErrors s).dmam = s.dmam := rfl
@[simp] theorem clearErrors_tet (s : State) : (clearErrors s).tet = s.tet := rfl
@[simp] theorem clearErrors_rt (s : State) : (clearErrors s).rt = s.rt := rfl
@[simp] theorem clearErrors_mcr (s : State) : (clearErrors s).mcr = s.mcr := rfl
@[simp] theorem clearErrors_scr (s : State) : (clearErrors s).scr = s.scr := rfl
@[simp] theorem clearErrors_txFifo (s : State) : (clearErrors s).txFifo = s.txFifo := rfl
@[simp] theorem clearErrors_txShift (s : State) : (clearErrors s).txShift = s.txShift := rfl
@[simp] theorem clearErrors_rxFifo (s : State) : (clearErrors s).rxFifo = s.rxFifo := rfl
@[simp] theorem clearErrors_rxActive (s : State) : (clearErrors s).rxActive = s.rxActive := rfl
@[simp] theorem clearErrors_oe (s : State) : (clearErrors s).oe = false := rfl
@[simp] theorem clearErrors_pe (s : State) : (clearErrors s).pe = false := rfl
@[simp] theorem clearErrors_fe (s : State) : (clearErrors s).fe = false := rfl
@[simp] theorem clearErrors_bi (s : State) : (clearErrors s).bi = false := rfl
@[simp] theorem clearErrors_msrIn (s : State) : (clearErrors s).msrIn = s.msrIn := rfl
@[simp] theorem clearErrors_msrDelta (s : State) : (clearErrors s).msrDelta = s.msrDelta := rfl
@[simp] theorem clearErrors_txLog (s : State) : (clearErrors s).txLog = s.txLog := rfl
@[simp] theorem clearErrors_replies (s : State) : (clearErrors s).replies = s.replies := rfl
@[simp] theorem clearErrors_inbox (s : State) : (clearErrors s).inbox = s.inbox := rfl
@[simp] theorem clearErrors_draws (s : State) : (clearErrors s).draws = s.draws := rfl

/-! ### changeLines -/

@[simp] theorem changeLines_params (lines : BitVec 4) (s : State) : (changeLines lines s).params = s.params := rfl
@[simp] theorem changeLines_lcr (lines : BitVec 4) (s : State) : (changeLines lines s).lcr = s.lcr := rfl
@[simp] theorem changeLines_dll (lines : BitVec 4) (s : State) : (changeLines lines s).dll = s.dll := rfl
@[simp] theorem changeLines_dlh (lines : BitVec 4) (s : State) : (changeLines lines s).dlh = s.dlh := rfl
@[simp] theorem changeLines_dlf (lines : BitVec 4) (s : State) : (changeLines lines s).dlf = s.dlf := rfl
@[simp] theorem changeLines_ier (lines : BitVec 4) (s : State) : (changeLines lines s).ier = s.ier := rfl
@[simp] theorem changeLines_fifoe (lines : BitVec 4) (s : State) : (changeLines lines s).fifoe = s.fifoe := rfl
@[simp] theorem changeLines_dmam (lines : BitVec 4) (s : State) : (changeLines lines s).dmam = s.dmam := rfl
@[simp] theorem changeLines_tet (lines : BitVec 4) (s : State) : (changeLines lines s).tet = s.tet := rfl
@[simp] theorem changeLines_rt (lines : BitVec 4) (s : State) : (changeLines lines s).rt = s.rt := rfl
@[simp] theorem changeLines_mcr (lines : BitVec 4) (s : State) : (changeLines lines s).mcr = s.mcr := rfl
@[simp] theorem changeLines_scr (lines : BitVec 4) (s : State) : (changeLines lines s).scr = s.scr := rfl
@[simp] theorem changeLines_txFifo (lines : BitVec 4) (s : State) : (changeLines lines s).txFifo = s.txFifo := rfl
@[simp] theorem changeLines_txShift (lines : BitVec 4) (s : State) : (changeLines lines s).txShift = s.txShift := rfl
@[simp] theorem changeLines_rxFifo (lines : BitVec 4) (s : State) : (changeLines lines s).rxFifo = s.rxFifo := rfl
@[simp] theorem changeLines_rxActive (lines : BitVec 4) (s : State) : (changeLines lines s).rxActive = s.rxActive := rfl
@[simp] theorem changeLines_oe (lines : BitVec 4) (s : State) : (changeLines lines s).oe = s.oe := rfl
@[simp] theorem changeLines_pe (lines : BitVec 4) (s : State) : (changeLines lines s).pe = s.pe := rfl
@[simp] theorem changeLines_fe (lines : BitVec 4) (s : State) : (changeLines lines s).fe = s.fe := rfl
@[simp] theorem changeLines_bi (lines : BitVec 4) (s : State) : (changeLines lines s).bi = s.bi := rfl
@[simp] theorem changeLines_msrIn (lines : BitVec 4) (s : State) : (changeLines lines s).msrIn = lines := rfl
@[simp] theorem changeLines_msrDelta (lines : BitVec 4) (s : State) : (changeLines lines s).msrDelta = s.msrDelta ||| (s.msrIn ^^^ lines) := rfl
@[simp] theorem changeLines_txLog (lines : BitVec 4) (s : State) : (changeLines lines s).txLog = s.txLog := rfl
@[simp] theorem changeLines_replies (lines : BitVec 4) (s : State) : (changeLines lines s).replies = s.replies := rfl
@[simp] theorem changeLines_inbox (lines : BitVec 4) (s : State) : (changeLines lines s).inbox = s.inbox := rfl
@[simp] theorem changeLines_draws (lines : BitVec 4) (s : State) : (changeLines lines s).draws = s.draws := rfl

/-! ### clearDeltas -/

@[simp] theorem clearDeltas_params (s : State) : (clearDeltas s).params = s.params := rfl
@[simp] theorem clearDeltas_lcr (s : State) : (clearDeltas s).lcr = s.lcr := rfl
@[simp] theorem clearDeltas_dll (s : State) : (clearDeltas s).dll = s.dll := rfl
@[simp] theorem clearDeltas_dlh (s : State) : (clearDeltas s).dlh = s.dlh := rfl
@[simp] theorem clearDeltas_dlf (s : State) : (clearDeltas s).dlf = s.dlf := rfl
@[simp] theorem clearDeltas_ier (s : State) : (clearDeltas s).ier = s.ier := rfl
@[simp] theorem clearDeltas_fifoe (s : State) : (clearDeltas s).fifoe = s.fifoe := rfl
@[simp] theorem clearDeltas_dmam (s : State) : (clearDeltas s).dmam = s.dmam := rfl
@[simp] theorem clearDeltas_tet (s : State) : (clearDeltas s).tet = s.tet := rfl
@[simp] theorem clearDeltas_rt (s : State) : (clearDeltas s).rt = s.rt := rfl
@[simp] theorem clearDeltas_mcr (s : State) : (clearDeltas s).mcr = s.mcr := rfl
@[simp] theorem clearDeltas_scr (s : State) : (clearDeltas s).scr = s.scr := rfl
@[simp] theorem clearDeltas_txFifo (s : State) : (clearDeltas s).txFifo = s.txFifo := rfl
@[simp] theorem clearDeltas_txShift (s : State) : (clearDeltas s).txShift = s.txShift := rfl
@[simp] theorem clearDeltas_rxFifo (s : State) : (clearDeltas s).rxFifo = s.rxFifo := rfl
@[simp] theorem clearDeltas_rxActive (s : State) : (clearDeltas s).rxActive = s.rxActive := rfl
@[simp] theorem clearDeltas_oe (s : State) : (clearDeltas s).oe = s.oe := rfl
@[simp] theorem clearDeltas_pe (s : State) : (clearDeltas s).pe = s.pe := rfl
@[simp] theorem clearDeltas_fe (s : State) : (clearDeltas s).fe = s.fe := rfl
@[simp] theorem clearDeltas_bi (s : State) : (clearDeltas s).bi = s.bi := rfl
@[simp] theorem clearDeltas_msrIn (s : State) : (clearDeltas s).msrIn = s.msrIn := rfl
@[simp] theorem clearDeltas_msrDelta (s : State) : (clearDeltas s).msrDelta = 0 := rfl
@[simp] theorem clearDeltas_txLog (s : State) : (clearDeltas s).txLog = s.txLog := rfl
@[simp] theorem clearDeltas_replies (s : State) : (clearDeltas s).replies = s.replies := rfl
@[simp] theorem clearDeltas_inbox (s : State) : (clearDeltas s).inbox = s.inbox := rfl
@[simp] theorem clearDeltas_draws (s : State) : (clearDeltas s).draws = s.draws := rfl

/-! ### resetBlock -/

@[simp] theorem resetBlock_params (s : State) : (resetBlock s).params = s.params := rfl
@[simp] theorem resetBlock_lcr (s : State) : (resetBlock s).lcr = 0x00 := rfl
@[simp] theorem resetBlock_dll (s : State) : (resetBlock s).dll = 0x00 := rfl
@[simp] theorem resetBlock_dlh (s : State) : (resetBlock s).dlh = 0x00 := rfl
@[simp] theorem resetBlock_dlf (s : State) : (resetBlock s).dlf = 0x0 := rfl
@[simp] theorem resetBlock_ier (s : State) : (resetBlock s).ier = 0x00 := rfl
@[simp] theorem resetBlock_fifoe (s : State) : (resetBlock s).fifoe = false := rfl
@[simp] theorem resetBlock_dmam (s : State) : (resetBlock s).dmam = false := rfl
@[simp] theorem resetBlock_tet (s : State) : (resetBlock s).tet = 0 := rfl
@[simp] theorem resetBlock_rt (s : State) : (resetBlock s).rt = 0 := rfl
@[simp] theorem resetBlock_mcr (s : State) : (resetBlock s).mcr = 0x00 := rfl
@[simp] theorem resetBlock_scr (s : State) : (resetBlock s).scr = 0x00 := rfl
@[simp] theorem resetBlock_txFifo (s : State) : (resetBlock s).txFifo = [] := rfl
@[simp] theorem resetBlock_txShift (s : State) : (resetBlock s).txShift = none := rfl
@[simp] theorem resetBlock_rxFifo (s : State) : (resetBlock s).rxFifo = [] := rfl
@[simp] theorem resetBlock_rxActive (s : State) : (resetBlock s).rxActive = false := rfl
@[simp] theorem resetBlock_oe (s : State) : (resetBlock s).oe = false := rfl
@[simp] theorem resetBlock_pe (s : State) : (resetBlock s).pe = false := rfl
@[simp] theorem resetBlock_fe (s : State) : (resetBlock s).fe = false := rfl
@[simp] theorem resetBlock_bi (s : State) : (resetBlock s).bi = false := rfl
@[simp] theorem resetBlock_msrIn (s : State) : (resetBlock s).msrIn = drawn 4 s := rfl
@[simp] theorem resetBlock_msrDelta (s : State) : (resetBlock s).msrDelta = 0 := rfl
@[simp] theorem resetBlock_txLog (s : State) : (resetBlock s).txLog = [] := rfl
@[simp] theorem resetBlock_replies (s : State) : (resetBlock s).replies = s.replies := rfl
@[simp] theorem resetBlock_inbox (s : State) : (resetBlock s).inbox = s.inbox := rfl
@[simp] theorem resetBlock_draws (s : State) : (resetBlock s).draws = s.draws + 1 := rfl

/-! ### pushTx: what it never changes -/

@[simp] theorem pushTx_params (b : Byte) (s : State) : (pushTx b s).params = s.params := by
  unfold pushTx; split <;> rfl
@[simp] theorem pushTx_lcr (b : Byte) (s : State) : (pushTx b s).lcr = s.lcr := by
  unfold pushTx; split <;> rfl
@[simp] theorem pushTx_dll (b : Byte) (s : State) : (pushTx b s).dll = s.dll := by
  unfold pushTx; split <;> rfl
@[simp] theorem pushTx_dlh (b : Byte) (s : State) : (pushTx b s).dlh = s.dlh := by
  unfold pushTx; split <;> rfl
@[simp] theorem pushTx_dlf (b : Byte) (s : State) : (pushTx b s).dlf = s.dlf := by
  unfold pushTx; split <;> rfl
@[simp] theorem pushTx_ier (b : Byte) (s : State) : (pushTx b s).ier = s.ier := by
  unfold pushTx; split <;> rfl
@[simp] theorem pushTx_fifoe (b : Byte) (s : State) : (pushTx b s).fifoe = s.fifoe := by
  unfold pushTx; split <;> rfl
@[simp] theorem pushTx_dmam (b : Byte) (s : State) : (pushTx b s).dmam = s.dmam := by
  unfold pushTx; split <;> rfl
@[simp] theorem pushTx_tet (b : Byte) (s : State) : (pushTx b s).tet = s.tet := by
  unfold pushTx; split <;> rfl
@[simp] theorem pushTx_rt (b : Byte) (s : State) : (pushTx b s).rt = s.rt := by
  unfold pushTx; split <;> rfl
@[simp] theorem pushTx_mcr (b : Byte) (s : State) : (pushTx b s).mcr = s.mcr := by
  unfold pushTx; split <;> rfl
@[simp] theorem pushTx_scr (b : Byte) (s : State) : (pushTx b s).scr = s.scr := by
  unfold pushTx; split <;> rfl
@[simp] theorem pushTx_txShift (b : Byte) (s : State) : (pushTx b s).txShift = s.txShift := by
  unfold pushTx; split <;> rfl
@[simp] theorem pushTx_rxFifo (b : Byte) (s : State) : (pushTx b s).rxFifo = s.rxFifo := by
  unfold pushTx; split <;> rfl
@[simp] theorem pushTx_rxActive (b : Byte) (s : State) : (pushTx b s).rxActive = s.rxActive := by
  unfold pushTx; split <;> rfl
@[simp] theorem pushTx_oe (b : Byte) (s : State) : (pushTx b s).oe = s.oe := by
  unfold pushTx; split <;> rfl
@[simp] theorem pushTx_pe (b : Byte) (s : State) : (pushTx b s).pe = s.pe := by
  unfold pushTx; split <;> rfl
@[simp] theorem pushTx_fe (b : Byte) (s : State) : (pushTx b s).fe = s.fe := by
  unfold pushTx; split <;> rfl
@[simp] theorem pushTx_bi (b : Byte) (s : State) : (pushTx b s).bi = s.bi := by
  unfold pushTx; split <;> rfl
@[simp] theorem pushTx_msrIn (b : Byte) (s : State) : (pushTx b s).msrIn = s.msrIn := by
  unfold pushTx; split <;> rfl
@[simp] theorem pushTx_msrDelta (b : Byte) (s : State) : (pushTx b s).msrDelta = s.msrDelta := by
  unfold pushTx; split <;> rfl
@[simp] theorem pushTx_txLog (b : Byte) (s : State) : (pushTx b s).txLog = s.txLog := by
  unfold pushTx; split <;> rfl
@[simp] theorem pushTx_replies (b : Byte) (s : State) : (pushTx b s).replies = s.replies := by
  unfold pushTx; split <;> rfl
@[simp] theorem pushTx_inbox (b : Byte) (s : State) : (pushTx b s).inbox = s.inbox := by
  unfold pushTx; split <;> rfl
@[simp] theorem pushTx_draws (b : Byte) (s : State) : (pushTx b s).draws = s.draws := by
  unfold pushTx; split <;> rfl

/-! ### storeRx: what it never changes -/

@[simp] theorem storeRx_params (b : Byte) (s : State) : (storeRx b s).params = s.params := by
  unfold storeRx; split; rfl; split <;> rfl
@[simp] theorem storeRx_lcr (b : Byte) (s : State) : (storeRx b s).lcr = s.lcr := by
  unfold storeRx; split; rfl; split <;> rfl
@[simp] theorem storeRx_dll (b : Byte) (s : State) : (storeRx b s).dll = s.dll := by
  unfold storeRx; split; rfl; split <;> rfl
@[simp] theorem storeRx_dlh (b : Byte) (s : State) : (storeRx b s).dlh = s.dlh := by
  unfold storeRx; split; rfl; split <;> rfl
@[simp] theorem storeRx_dlf (b : Byte) (s : State) : (storeRx b s).dlf = s.dlf := by
  unfold storeRx; split; rfl; split <;> rfl
@[simp] theorem storeRx_ier (b : Byte) (s : State) : (storeRx b s).ier = s.ier := by
  unfold storeRx; split; rfl; split <;> rfl
@[simp] theorem storeRx_fifoe (b : Byte) (s : State) : (storeRx b s).fifoe = s.fifoe := by
  unfold storeRx; split; rfl; split <;> rfl
@[simp] theorem storeRx_dmam (b : Byte) (s : State) : (storeRx b s).dmam = s.dmam := by
  unfold storeRx; split; rfl; split <;> rfl
@[simp] theorem storeRx_tet (b : Byte) (s : State) : (storeRx b s).tet = s.tet := by
  unfold storeRx; split; rfl; split <;> rfl
@[simp] theorem storeRx_rt (b : Byte) (s : State) : (storeRx b s).rt = s.rt := by
  unfold storeRx; split; rfl; split <;> rfl
@[simp] theorem storeRx_mcr (b : Byte) (s : State) : (storeRx b s).mcr = s.mcr := by
  unfold storeRx; split; rfl; split <;> rfl
@[simp] theorem storeRx_scr (b : Byte) (s : State) : (storeRx b s).scr = s.scr := by
  unfold storeRx; split; rfl; split <;> rfl
@[simp] theorem storeRx_txFifo (b : Byte) (s : State) : (storeRx b s).txFifo = s.txFifo := by
  unfold storeRx; split; rfl; split <;> rfl
@[simp] theorem storeRx_txShift (b : Byte) (s : State) : (storeRx b s).txShift = s.txShift := by
  unfold storeRx; split; rfl; split <;> rfl
@[simp] theorem storeRx_rxActive (b : Byte) (s : State) : (storeRx b s).rxActive = s.rxActive := by
  unfold storeRx; split; rfl; split <;> rfl
@[simp] theorem storeRx_pe (b : Byte) (s : State) : (storeRx b s).pe = s.pe := by
  unfold storeRx; split; rfl; split <;> rfl
@[simp] theorem storeRx_fe (b : Byte) (s : State) : (storeRx b s).fe = s.fe := by
  unfold storeRx; split; rfl; split <;> rfl
@[simp] theorem storeRx_bi (b : Byte) (s : State) : (storeRx b s).bi = s.bi := by
  unfold storeRx; split; rfl; split <;> rfl
@[simp] theorem storeRx_msrIn (b : Byte) (s : State) : (storeRx b s).msrIn = s.msrIn := by
  unfold storeRx; split; rfl; split <;> rfl
@[simp] theorem storeRx_msrDelta (b : Byte) (s : State) : (storeRx b s).msrDelta = s.msrDelta := by
  unfold storeRx; split; rfl; split <;> rfl
@[simp] theorem storeRx_txLog (b : Byte) (s : State) : (storeRx b s).txLog = s.txLog := by
  unfold storeRx; split; rfl; split <;> rfl
@[simp] theorem storeRx_replies (b : Byte) (s : State) : (storeRx b s).replies = s.replies := by
  unfold storeRx; split; rfl; split <;> rfl
@[simp] theorem storeRx_inbox (b : Byte) (s : State) : (storeRx b s).inbox = s.inbox := by
  unfold storeRx; split; rfl; split <;> rfl
@[simp] theorem storeRx_draws (b : Byte) (s : State) : (storeRx b s).draws = s.draws := by
  unfold storeRx; split; rfl; split <;> rfl

/-! ### writeFcr: what it never changes -/

@[simp] theorem writeFcr_params (f : FcrFields) (s : State) : (writeFcr f s).params = s.params := by
  simp only [writeFcr]; split <;> split <;> split <;> rfl
@[simp] theorem writeFcr_lcr (f : FcrFields) (s : State) : (writeFcr f s).lcr = s.lcr := by
  simp only [writeFcr]; split <;> split <;> split <;> rfl
@[simp] theorem writeFcr_dll (f : FcrFields) (s : State) : (writeFcr f s).dll = s.dll := by
  simp only [writeFcr]; split <;> split <;> split <;> rfl
@[simp] theorem writeFcr_dlh (f : FcrFields) (s : State) : (writeFcr f s).dlh = s.dlh := by
  simp only [writeFcr]; split <;> split <;> split <;> rfl
@[simp] theorem writeFcr_dlf (f : FcrFields) (s : State) : (writeFcr f s).dlf = s.dlf := by
  simp only [writeFcr]; split <;> split <;> split <;> rfl
@[simp] theorem writeFcr_ier (f : FcrFields) (s : State) : (writeFcr f s).ier = s.ier := by
  simp only [writeFcr]; split <;> split <;> split <;> rfl
@[simp] theorem writeFcr_mcr (f : FcrFields) (s : State) : (writeFcr f s).mcr = s.mcr := by
  simp only [writeFcr]; split <;> split <;> split <;> rfl
@[simp] theorem writeFcr_scr (f : FcrFields) (s : State) : (writeFcr f s).scr = s.scr := by
  simp only [writeFcr]; split <;> split <;> split <;> rfl
@[simp] theorem writeFcr_txShift (f : FcrFields) (s : State) : (writeFcr f s).txShift = s.txShift := by
  simp only [writeFcr]; split <;> split <;> split <;> rfl
@[simp] theorem writeFcr_rxActive (f : FcrFields) (s : State) : (writeFcr f s).rxActive = s.rxActive := by
  simp only [writeFcr]; split <;> split <;> split <;> rfl
@[simp] theorem writeFcr_oe (f : FcrFields) (s : State) : (writeFcr f s).oe = s.oe := by
  simp only [writeFcr]; split <;> split <;> split <;> rfl
@[simp] theorem writeFcr_pe (f : FcrFields) (s : State) : (writeFcr f s).pe = s.pe := by
  simp only [writeFcr]; split <;> split <;> split <;> rfl
@[simp] theorem writeFcr_fe (f : FcrFields) (s : State) : (writeFcr f s).fe = s.fe := by
  simp only [writeFcr]; split <;> split <;> split <;> rfl
@[simp] theorem writeFcr_bi (f : FcrFields) (s : State) : (writeFcr f s).bi = s.bi := by
  simp only [writeFcr]; split <;> split <;> split <;> rfl
@[simp] theorem writeFcr_msrIn (f : FcrFields) (s : State) : (writeFcr f s).msrIn = s.msrIn := by
  simp only [writeFcr]; split <;> split <;> split <;> rfl
@[simp] theorem writeFcr_msrDelta (f : FcrFields) (s : State) : (writeFcr f s).msrDelta = s.msrDelta := by
  simp only [writeFcr]; split <;> split <;> split <;> rfl
@[simp] theorem writeFcr_txLog (f : FcrFields) (s : State) : (writeFcr f s).txLog = s.txLog := by
  simp only [writeFcr]; split <;> split <;> split <;> rfl
@[simp] theorem writeFcr_replies (f : FcrFields) (s : State) : (writeFcr f s).replies = s.replies := by
  simp only [writeFcr]; split <;> split <;> split <;> rfl
@[simp] theorem writeFcr_inbox (f : FcrFields) (s : State) : (writeFcr f s).inbox = s.inbox := by
  simp only [writeFcr]; split <;> split <;> split <;> rfl
@[simp] theorem writeFcr_draws (f : FcrFields) (s : State) : (writeFcr f s).draws = s.draws := by
  simp only [writeFcr]; split <;> split <;> split <;> rfl
@[simp] theorem writeFcr_fifoe (f : FcrFields) (s : State) : (writeFcr f s).fifoe = f.fifoe := rfl
@[simp] theorem writeFcr_dmam (f : FcrFields) (s : State) : (writeFcr f s).dmam = f.dmam := rfl
@[simp] theorem writeFcr_tet (f : FcrFields) (s : State) : (writeFcr f s).tet = f.tet := rfl
@[simp] theorem writeFcr_rt (f : FcrFields) (s : State) : (writeFcr f s).rt = f.rt := rfl

end Sys2Proof.Machine
end

