-- ==== Sys2Proof/Laws/Flags.lean ====
section
/-! SUPPORT. The small lemmas of the derived flags and of the register values: each flag as a plain
proposition, each register value bit by bit, and which updates leave the capacities alone. -/

namespace Sys2Proof.Machine

/-! ### Capacities -/

theorem txCap_pos (s : State) : 0 < txCap s := by
  unfold txCap Params.fifoDepth; split <;> omega

theorem rxCap_pos (s : State) : 0 < rxCap s := by
  unfold rxCap Params.fifoDepth; split <;> omega

theorem txCap_congr {s t : State} (hp : t.params = s.params) (hf : t.fifoe = s.fifoe) :
    txCap t = txCap s := by unfold txCap; rw [hp, hf]

theorem rxCap_congr {s t : State} (hp : t.params = s.params) (hf : t.fifoe = s.fifoe) :
    rxCap t = rxCap s := by unfold rxCap; rw [hp, hf]

/-! ### Flags as propositions -/

@[simp] theorem dr_iff (s : State) : dr s = true ↔ s.rxFifo ≠ [] := by
  simp [dr, List.length_pos_iff]

@[simp] theorem rfne_iff (s : State) : rfne s = true ↔ s.rxFifo ≠ [] := by
  simp [rfne, List.length_pos_iff]

@[simp] theorem thre_iff (s : State) : thre s = true ↔ s.txFifo = [] := by simp [thre]

@[simp] theorem tfe_iff (s : State) : tfe s = true ↔ s.txFifo = [] := by simp [tfe]

@[simp] theorem temt_iff (s : State) : temt s = true ↔ s.txFifo = [] ∧ s.txShift = none := by
  simp [temt, Option.isNone_iff_eq_none]

@[simp] theorem tfnf_iff (s : State) : tfnf s = true ↔ s.txFifo.length < txCap s := by simp [tfnf]

@[simp] theorem rff_iff (s : State) : rff s = true ↔ s.rxFifo.length = rxCap s := by simp [rff]

/-- BUSY = 0 says that nothing is queued, shifting or being assembled (10_state.md R26). -/
theorem busy_eq_false_iff (s : State) :
    busy s = false ↔ s.txFifo = [] ∧ s.txShift = none ∧ s.rxActive = false ∧
      (s.params.busyOnRxData = true → s.rxFifo = []) := by
  cases h : s.params.busyOnRxData <;>
    simp [busy, h, and_assoc, List.length_eq_zero_iff]

/-! ### Register values, bit by bit -/

theorem placeAt_getLsbD {n : Nat} (lo : Nat) (v : BitVec n) (i : Nat) :
    (placeAt lo v).getLsbD i = (decide (i < 8) && decide (lo ≤ i) && v.getLsbD (i - lo)) := by
  simp only [placeAt, BitVec.getLsbD_shiftLeft, BitVec.getLsbD_setWidth]
  by_cases h8 : i < 8 <;> by_cases hl : lo ≤ i <;> simp [h8, hl]
  have h1 : ¬ i < lo := by omega
  have h2 : i - lo < 8 := by omega
  simp [h1, h2]

@[simp] theorem flagAt_getLsbD (lo : Nat) (b : Bool) (i : Nat) :
    (flagAt lo b).getLsbD i = (decide (i < 8) && decide (i = lo) && b) := by
  rw [flagAt, placeAt_getLsbD, BitVec.getLsbD_ofBool]
  by_cases h8 : i < 8 <;> by_cases hl : i = lo <;> simp [h8, hl]
  omega

@[simp] theorem flagAt_getElem (lo : Nat) (b : Bool) (i : Nat) (hi : i < 8) :
    (flagAt lo b)[i] = (decide (i = lo) && b) := by
  rw [← BitVec.getLsbD_eq_getElem, flagAt_getLsbD]; simp [hi]

/-- Line Status, bit by bit (43_status.md R141). -/
theorem lsrValue_bits (s : State) (d : Bool) :
    (lsrValue s d).getLsbD 0 = dr s ∧ (lsrValue s d).getLsbD 1 = s.oe ∧
      (lsrValue s d).getLsbD 2 = s.pe ∧ (lsrValue s d).getLsbD 3 = s.fe ∧
      (lsrValue s d).getLsbD 4 = s.bi ∧ (lsrValue s d).getLsbD 5 = thre s ∧
      (lsrValue s d).getLsbD 6 = temt s ∧ (lsrValue s d).getLsbD 7 = d := by
  simp [lsrValue, composeLsr]

/-- UART Status, bit by bit (43_status.md R142). -/
theorem usrValue_bits (s : State) :
    (usrValue s).getLsbD 0 = busy s ∧ (usrValue s).getLsbD 1 = tfnf s ∧
      (usrValue s).getLsbD 2 = tfe s ∧ (usrValue s).getLsbD 3 = rfne s ∧
      (usrValue s).getLsbD 4 = rff s ∧ (usrValue s).getLsbD 5 = false ∧
      (usrValue s).getLsbD 6 = false ∧ (usrValue s).getLsbD 7 = false := by
  simp [usrValue, composeUsr]

/-- Modem Status: the deltas below, the inputs above (43_status.md R143). -/
theorem msrValue_getLsbD (s : State) (i : Nat) :
    (msrValue s).getLsbD i = if i < 4 then s.msrDelta.getLsbD i else s.msrIn.getLsbD (i - 4) := by
  unfold msrValue
  exact BitVec.getLsbD_append

/-- `zext_32` keeps the bits and adds zeros (30_encoding.md R76 b). -/
@[simp] theorem zext32_getLsbD {n : Nat} (v : BitVec n) (i : Nat) :
    (zext32 v).getLsbD i = (decide (i < 32) && v.getLsbD i) := by
  simp [zext32]

@[simp] theorem byteOperand_zext32 (b : Byte) : byteOperand (zext32 b) = b := by
  apply BitVec.eq_of_getLsbD_eq
  intro i hi
  simp [byteOperand, hi]
  omega

/-! ### Write operands as truncations (30_encoding.md R72, R73, R76 a) -/

theorem byteOperand_eq (w : Word) : byteOperand w = w.setWidth 8 := by
  apply BitVec.eq_of_getLsbD_eq; intro i hi; simp [byteOperand]

theorem fracOperand_eq (w : Word) : fracOperand w = w.setWidth 4 := by
  apply BitVec.eq_of_getLsbD_eq; intro i hi; simp [fracOperand]

theorem modemOperand_eq (w : Word) : modemOperand w = w.setWidth 7 := by
  apply BitVec.eq_of_getLsbD_eq; intro i hi; simp [modemOperand]

end Sys2Proof.Machine
end

