-- ==== Sys2Proof/Laws/Ops.lean ====
section
/-! SUPPORT. One lemma for each shared operation that says once everything it can do. -/

namespace Sys2Proof.Machine

/-! ### Guards -/

theorem unlessBusy_next {s n t : State} : unlessBusy s n = .next t ↔ busy s = false ∧ n = t := by
  unfold unlessBusy; split <;> simp [*]

theorem unlessBusy_refused {s n : State} {r : Refusal} :
    unlessBusy s n = .refused r ↔ busy s = true ∧ .busyWrite = r := by
  unfold unlessBusy; split <;> simp [*]

theorem unlessBusy_ne_fault {s n : State} {r : Fault} : unlessBusy s n ≠ .fault r := by
  unfold unlessBusy; split <;> simp

theorem whenEnabled_next {e : Bool} {n t : State} : whenEnabled e n = .next t ↔ e = true ∧ n = t := by
  unfold whenEnabled; split <;> simp_all

theorem whenEnabled_fault {e : Bool} {n : State} {r : Fault} :
    whenEnabled e n = .fault r ↔ e = false ∧ .eventNotEnabled = r := by
  unfold whenEnabled; split <;> simp_all

theorem whenEnabled_ne_refused {e : Bool} {n : State} {r : Refusal} : whenEnabled e n ≠ .refused r := by
  unfold whenEnabled; split <;> simp

@[simp] theorem ignoreWrite_eq (w : Word) (s : State) : ignoreWrite w s = .next s := rfl

/-! ### FIFOs -/

/-- What `pushTx` can do: append, or lose the byte. -/
theorem pushTx_cases (b : Byte) (s : State) :
    (s.txFifo.length < txCap s ∧ pushTx b s = { s with txFifo := s.txFifo ++ [b] }) ∨
      (txCap s ≤ s.txFifo.length ∧ pushTx b s = s) := by
  unfold pushTx; split
  · exact .inl ⟨‹_›, rfl⟩
  · exact .inr ⟨by omega, rfl⟩

/-- What `storeRx` can do: append, overrun keeping the FIFO, or overrun overwriting the buffer. -/
theorem storeRx_cases (b : Byte) (s : State) :
    (s.rxFifo.length < rxCap s ∧ storeRx b s = { s with rxFifo := s.rxFifo ++ [b] }) ∨
      (rxCap s ≤ s.rxFifo.length ∧ s.fifoe = true ∧ storeRx b s = { s with oe := true }) ∨
      (rxCap s ≤ s.rxFifo.length ∧ s.fifoe = false ∧
        storeRx b s = { s with oe := true, rxFifo := [b] }) := by
  unfold storeRx
  by_cases hr : s.rxFifo.length < rxCap s
  · exact .inl ⟨hr, if_pos hr⟩
  · rw [if_neg hr]
    cases hf : s.fifoe
    · exact .inr (.inr ⟨by omega, rfl, if_neg Bool.false_ne_true⟩)
    · exact .inr (.inl ⟨by omega, rfl, if_pos rfl⟩)

/-- The transmit FIFO after a write of FIFO Control (42_fifo_modem_control.md R122). -/
@[simp] theorem writeFcr_txFifo (f : FcrFields) (s : State) :
    (writeFcr f s).txFifo = if f.fifoe ≠ s.fifoe ∨ f.xfifor = true then [] else s.txFifo := by
  simp only [writeFcr]
  by_cases h1 : f.fifoe = s.fifoe <;> cases h2 : f.rfifor <;> cases h3 : f.xfifor <;> simp [h1]

/-- The receive FIFO after a write of FIFO Control (42_fifo_modem_control.md R122). -/
@[simp] theorem writeFcr_rxFifo (f : FcrFields) (s : State) :
    (writeFcr f s).rxFifo = if f.fifoe ≠ s.fifoe ∨ f.rfifor = true then [] else s.rxFifo := by
  simp only [writeFcr]
  by_cases h1 : f.fifoe = s.fifoe <;> cases h2 : f.rfifor <;> cases h3 : f.xfifor <;> simp [h1]

/-! ### Fetching -/

/-- A good access is 4 bytes wide, aligned and inside the block (20_memory.md R42). -/
theorem goodAccess_iff (offset width : Nat) :
    goodAccess offset width = true ↔ width = 4 ∧ offset % 4 = 0 ∧ offset < 256 := by
  have hb : blockSize = 256 := rfl
  simp [goodAccess, and_assoc, hb]

/-- What `nextInstr` can answer. -/
theorem nextInstr_ok_iff {s : State} {x : Input} {i : Instr} :
    nextInstr s x = .ok i ↔ ∃ e, encodedInput s x = .ok e ∧ decode e = .ok i := by
  unfold nextInstr
  cases he : encodedInput s x with
  | error r => simp
  | ok e => cases hd : decode e <;> simp [hd]

/-- Serving an input that stands for an operation runs that operation. -/
theorem serve_of_nextInstr {s : State} {x : Input} {i : Instr} (h : nextInstr s x = .ok i) :
    serve s x = exec i s := by
  unfold serve; rw [h]

/-- A good access runs the operation that its key decodes to, `K[8]` being DLAB (30_encoding.md R60). -/
theorem serve_access {s : State} {wr : Bool} {offset : Nat} {w : Word} {i : Instr}
    (h4 : offset % 4 = 0) (hb : offset < 256)
    (h : decode (.bus (keyOf wr (dlab s) (BitVec.ofNat 8 offset)) w) = .ok i) :
    serve s (.access wr offset 4 w) = exec i s := by
  apply serve_of_nextInstr
  rw [nextInstr_ok_iff]
  exact ⟨_, by simp only [encodedInput]; rw [if_pos ((goodAccess_iff _ _).2 ⟨rfl, h4, hb⟩)], h⟩

/-- A step with an input pending serves it. -/
theorem step_cons {s : State} {x : Input} {rest : List Input} (h : s.inbox = x :: rest) :
    step s = serve { s with inbox := rest } x := by
  unfold step; rw [h]

/-- What a step that answers a next state can be: nothing pending, or one operation run. -/
theorem step_next_cases {s t : State} (h : step s = .next t) :
    (s.inbox = [] ∧ t = s) ∨
      ∃ x rest i, s.inbox = x :: rest ∧ nextInstr { s with inbox := rest } x = .ok i ∧
        exec i { s with inbox := rest } = .next t := by
  unfold step at h
  split at h
  · next hi => exact .inl ⟨hi, by simpa using h.symm⟩
  · next x rest hi =>
    refine .inr ⟨x, rest, ?_⟩
    unfold serve at h
    split at h
    · next i hn => exact ⟨i, hi, hn, h⟩
    · cases h

end Sys2Proof.Machine
end

