-- ==== Sys2Proof/Laws/HostSequences.lean ====
section
/-! SUPPORT. What the labels of the host sequences and the turns of a host system can do, said once. -/

namespace Sys2Proof.Machine

/-! ### Labels -/

/-- A thread makes an access of its call exactly while it is in one. -/
theorem HostPc.access_none_iff (pc : HostPc) : pc.access = none ↔ pc.call = none := by
  cases pc <;> simp [access, call]

/-- A sequence begins at a label of its own. -/
theorem HostCall.start_call {c : HostCall} {pc : HostPc} (h : c.start = some pc) :
    pc.call = some c := by
  cases c <;> simp only [start] at h
  case configure => split at h <;> cases h; rfl
  all_goals cases h; rfl

/-- A sequence goes on at a label of its own, or ends. -/
theorem HostPc.resume_call (v : Word) (pc : HostPc) :
    (pc.resume v).call = none ∨ (pc.resume v).call = pc.call := by
  cases pc <;> simp only [resume]
  case r0 => unfold afterLsr; split <;> simp [call]
  all_goals first
    | (split <;> simp [call])
    | simp [call]

/-- The accesses of a sequence are among those that 45_host_sequences.md R188 lists for it. -/
theorem HostPc.access_mem_operations {pc : HostPc} {c : HostCall} {x : Input}
    (hc : pc.call = some c) (hx : pc.access = some x) :
    ∃ wr reg v, (wr, reg) ∈ c.operations ∧ x = .access wr reg.offset 4 v := by
  cases pc <;> simp only [call, access, Option.some.injEq, reduceCtorEq] at hc hx <;>
    subst hc <;> subst hx <;> simp [HostCall.operations, readReg, writeReg]

/-! ### Well-formed host systems -/

/-- What a bus operation of a thread can be, where it is answered. -/
theorem HostSystem.access_next_iff {h h' : HostSystem} {n : Nat} {th : HostThread} {x : Input}
    {f : Word → HostPc} :
    h.access n th x f = .next h' ↔
      h.oneOwner = true ∧ ∃ i t, nextInstr h.dev x = .ok i ∧ th.cls.mayIssue i = true ∧
        exec i h.dev = .next t ∧
        h' = { dev := t, threads := h.threads.set n { th with pc := f (lastReply t) } } := by
  unfold access
  cases h.oneOwner <;> simp
  cases nextInstr h.dev x with
  | error r => simp
  | ok i =>
    cases hm : th.cls.mayIssue i <;> simp [hm]
    cases he : exec i h.dev <;> simp [setThread, eq_comm]

/-- Replacing a thread by one that owns nothing it did not own keeps the number of owners at one. -/
theorem HostSystem.oneOwner_setThread {h : HostSystem} {n : Nat} {th th' : HostThread} {d : State}
    (hn : h.threads[n]? = some th) (hc : th'.cls = .owner → th.cls = .owner)
    (ho : h.oneOwner = true) :
    HostSystem.oneOwner { dev := d, threads := h.threads.set n th' } = true := by
  obtain ⟨hlt, hget⟩ := List.getElem?_eq_some_iff.1 hn
  simp only [oneOwner, decide_eq_true_eq, ← List.countP_eq_length_filter] at ho ⊢
  rw [List.countP_set hlt, hget]
  by_cases h1 : th.cls = .owner
  · have hpos : 0 < h.threads.countP (fun t => t.cls == .owner) :=
      List.countP_pos_iff.2 ⟨th, List.mem_of_getElem? hn, by simp [h1]⟩
    simp only [h1, beq_self_eq_true, ite_true]
    split <;> omega
  · have h2 : th'.cls ≠ .owner := fun e => h1 (hc e)
    simp [h1, h2, ho]

/-- Replacing a thread by one whose call its class may make leaves every call allowed. -/
theorem HostSystem.callsAllowed_set {l : List HostThread} {n : Nat} {th : HostThread}
    (hl : l.all HostThread.callAllowed = true) (ht : th.callAllowed = true) :
    (l.set n th).all HostThread.callAllowed = true := by
  rw [List.all_eq_true] at hl ⊢
  intro t hm
  rcases List.mem_or_eq_of_mem_set hm with h | rfl
  · exact hl t h
  · exact ht

/-- Every turn keeps a set of host threads well formed (60_exceptions.md R212). -/
theorem HostSystem.step_wellFormed {h h' : HostSystem} {turn : Turn} (hw : h.wellFormed = true)
    (hs : h.step turn = .next h') : h'.wellFormed = true := by
  simp only [wellFormed, Bool.and_eq_true] at hw ⊢
  cases turn with
  | event ev operands =>
    simp only [step] at hs
    split at hs <;> cases hs
    exact hw
  | thread n =>
    simp only [step] at hs
    split at hs
    · cases hs
    · next th hn =>
      unfold goOn at hs
      split at hs
      · cases hs; exact hw
      · split at hs
        · next ha =>
          obtain ⟨_, i, t, _, _, _, rfl⟩ := access_next_iff.1 hs
          refine ⟨oneOwner_setThread hn id hw.1, callsAllowed_set hw.2 ?_⟩
          rcases HostPc.resume_call (lastReply t) th.pc with hr | hr
          · simp [HostThread.callAllowed, hr]
          · simpa [HostThread.callAllowed, hr] using ha
        · cases hs
  | act n a =>
    simp only [step] at hs
    split at hs
    · cases hs
    · next th hn =>
      split at hs
      · next hi =>
        cases a with
        | call c =>
          simp only [act] at hs
          split at hs
          · next hm =>
            split at hs
            · next pc hpc =>
              cases hs
              exact ⟨oneOwner_setThread hn id hw.1, callsAllowed_set hw.2
                (by simpa [HostThread.callAllowed, HostCall.start_call hpc] using hm)⟩
            · cases hs
          · cases hs
        | issue wr offset width w =>
          simp only [act] at hs
          obtain ⟨_, i, t, _, _, _, rfl⟩ := access_next_iff.1 hs
          exact ⟨oneOwner_setThread hn id hw.1, callsAllowed_set hw.2 rfl⟩
        | obtain | drop =>
          simp only [act, become] at hs
          split at hs
          · next ho =>
            cases hs
            exact ⟨ho, callsAllowed_set hw.2 (by simp [HostThread.callAllowed, hi])⟩
          · cases hs
      · cases hs

end Sys2Proof.Machine
end

