-- ==== Sys2Proof/Laws/PerInstr.lean ====
section
/-! SUPPORT. Families of statements about the operations as syntax, one lemma for each constructor. -/

namespace Sys2Proof.Laws

/-- Decoding the words of a well-formed operation gives it back, in either window. -/
def RoundTrip.Statement (i : Instr) : Prop :=
  i.wellFormed = true → ∀ dlab : Bool, decode (encodeAt dlab i) = .ok i


theorem RoundTrip.rdRbr : RoundTrip.Statement .rdRbr :=
  fun _ d => by cases d <;> rfl

theorem RoundTrip.wrThr (wdata : Word) : RoundTrip.Statement (.wrThr wdata) :=
  fun _ d => by cases d <;> rfl

theorem RoundTrip.rdScr : RoundTrip.Statement .rdScr :=
  fun _ d => by cases d <;> rfl

theorem RoundTrip.wrScr (wdata : Word) : RoundTrip.Statement (.wrScr wdata) :=
  fun _ d => by cases d <;> rfl

theorem RoundTrip.rdDll : RoundTrip.Statement .rdDll :=
  fun _ d => by cases d <;> rfl

theorem RoundTrip.wrDll (wdata : Word) : RoundTrip.Statement (.wrDll wdata) :=
  fun _ d => by cases d <;> rfl

theorem RoundTrip.rdDlh : RoundTrip.Statement .rdDlh :=
  fun _ d => by cases d <;> rfl

theorem RoundTrip.wrDlh (wdata : Word) : RoundTrip.Statement (.wrDlh wdata) :=
  fun _ d => by cases d <;> rfl

theorem RoundTrip.wrLcr (wdata : Word) : RoundTrip.Statement (.wrLcr wdata) :=
  fun _ d => by cases d <;> rfl

theorem RoundTrip.rdLcr : RoundTrip.Statement .rdLcr :=
  fun _ d => by cases d <;> rfl

theorem RoundTrip.rdDlf : RoundTrip.Statement .rdDlf :=
  fun _ d => by cases d <;> rfl

theorem RoundTrip.wrDlf (wdata : Word) : RoundTrip.Statement (.wrDlf wdata) :=
  fun _ d => by cases d <;> rfl

theorem RoundTrip.rdIer : RoundTrip.Statement .rdIer :=
  fun _ d => by cases d <;> rfl

theorem RoundTrip.wrIer (wdata : Word) : RoundTrip.Statement (.wrIer wdata) :=
  fun _ d => by cases d <;> rfl

theorem RoundTrip.rdIir : RoundTrip.Statement .rdIir :=
  fun _ d => by cases d <;> rfl

theorem RoundTrip.wrFcr (wdata : Word) : RoundTrip.Statement (.wrFcr wdata) :=
  fun _ d => by cases d <;> rfl

theorem RoundTrip.rdMcr : RoundTrip.Statement .rdMcr :=
  fun _ d => by cases d <;> rfl

theorem RoundTrip.wrMcr (wdata : Word) : RoundTrip.Statement (.wrMcr wdata) :=
  fun _ d => by cases d <;> rfl

theorem RoundTrip.rdLsr : RoundTrip.Statement .rdLsr :=
  fun _ d => by cases d <;> rfl

theorem RoundTrip.rdUsr : RoundTrip.Statement .rdUsr :=
  fun _ d => by cases d <;> rfl

theorem RoundTrip.rdMsr : RoundTrip.Statement .rdMsr :=
  fun _ d => by cases d <;> rfl

theorem RoundTrip.rdTfl : RoundTrip.Statement .rdTfl :=
  fun _ d => by cases d <;> rfl

theorem RoundTrip.rdRfl : RoundTrip.Statement .rdRfl :=
  fun _ d => by cases d <;> rfl

theorem RoundTrip.rdCpr : RoundTrip.Statement .rdCpr :=
  fun _ d => by cases d <;> rfl

theorem RoundTrip.rdUcv : RoundTrip.Statement .rdUcv :=
  fun _ d => by cases d <;> rfl

theorem RoundTrip.rdCtr : RoundTrip.Statement .rdCtr :=
  fun _ d => by cases d <;> rfl

theorem RoundTrip.wrLsr (wdata : Word) : RoundTrip.Statement (.wrLsr wdata) :=
  fun _ d => by cases d <;> rfl

theorem RoundTrip.wrMsr (wdata : Word) : RoundTrip.Statement (.wrMsr wdata) :=
  fun _ d => by cases d <;> rfl

theorem RoundTrip.wrUsr (wdata : Word) : RoundTrip.Statement (.wrUsr wdata) :=
  fun _ d => by cases d <;> rfl

theorem RoundTrip.wrTfl (wdata : Word) : RoundTrip.Statement (.wrTfl wdata) :=
  fun _ d => by cases d <;> rfl

theorem RoundTrip.wrRfl (wdata : Word) : RoundTrip.Statement (.wrRfl wdata) :=
  fun _ d => by cases d <;> rfl

theorem RoundTrip.wrCpr (wdata : Word) : RoundTrip.Statement (.wrCpr wdata) :=
  fun _ d => by cases d <;> rfl

theorem RoundTrip.wrUcv (wdata : Word) : RoundTrip.Statement (.wrUcv wdata) :=
  fun _ d => by cases d <;> rfl

theorem RoundTrip.wrCtr (wdata : Word) : RoundTrip.Statement (.wrCtr wdata) :=
  fun _ d => by cases d <;> rfl

theorem RoundTrip.txTake : RoundTrip.Statement .txTake :=
  fun _ d => by cases d <;> rfl

theorem RoundTrip.txDone : RoundTrip.Statement .txDone :=
  fun _ d => by cases d <;> rfl

theorem RoundTrip.rxStart : RoundTrip.Statement .rxStart :=
  fun _ d => by cases d <;> rfl

theorem RoundTrip.rxChar (byte : Byte) (pe fe bi : Bool) : RoundTrip.Statement (.rxChar byte pe fe bi) := by
  intro _ d
  have h1 : (rxCharOperands byte pe fe bi).extractLsb' 0 8 = byte := by
    apply BitVec.eq_of_getLsbD_eq
    intro i hi
    cases pe <;> cases fe <;> cases bi <;> interval_cases i <;> simp [rxCharOperands]
  have h2 : (rxCharOperands byte pe fe bi).getLsbD 8 = pe := by
    cases pe <;> cases fe <;> cases bi <;> simp [rxCharOperands]
  have h3 : (rxCharOperands byte pe fe bi).getLsbD 9 = fe := by
    cases pe <;> cases fe <;> cases bi <;> simp [rxCharOperands]
  have h4 : (rxCharOperands byte pe fe bi).getLsbD 10 = bi := by
    cases pe <;> cases fe <;> cases bi <;> simp [rxCharOperands]
  simp only [encodeAt, decode, decodeEvent, h1, h2, h3, h4]
  rfl

theorem RoundTrip.modemChange (lines : BitVec 4) : RoundTrip.Statement (.modemChange lines) := by
  intro _ d
  have h1 : (lines.setWidth 11).extractLsb' 4 7 = 0 := by
    apply BitVec.eq_of_getLsbD_eq
    intro i hi
    interval_cases i <;> simp
  have h2 : (lines.setWidth 11).extractLsb' 0 4 = lines := by
    apply BitVec.eq_of_getLsbD_eq
    intro i hi
    interval_cases i <;> simp
  simp only [encodeAt, decode, decodeEvent, h1, h2]
  rfl

theorem RoundTrip.reset : RoundTrip.Statement .reset :=
  fun _ d => by cases d <;> rfl

/-- No row of the decode table hits the key of a reserved offset (30_encoding.md R77), over the
finitely many offsets. -/
theorem reserved_hits_nothing :
    ∀ (wr dlab : Bool) (n : Fin 256), reservedOffset dlab (BitVec.ofFin n) = true →
      (busTable.find? (fun row => row.hits (keyOf wr dlab (BitVec.ofFin n)))).isNone = true := by
  decide +kernel

/-- A reserved offset is aligned, and the decoder finds no row for it (30_encoding.md R77). -/
theorem reserved_key_hits_no_row (wr dlab : Bool) (offset : Byte)
    (h : reservedOffset dlab offset = true) :
    (keyOffset (keyOf wr dlab offset)).toNat % 4 = 0 ∧
      busTable.find? (fun row => row.hits (keyOf wr dlab offset)) = none := by
  have hm : offset.toNat % 4 = 0 := by
    simp only [reservedOffset, Bool.and_eq_true, beq_iff_eq] at h
    exact h.1
  exact ⟨by simpa using hm, by simpa using reserved_hits_nothing wr dlab offset.toFin h⟩

theorem RoundTrip.rsvdRd (dlab : Bool) (offset : Byte) : RoundTrip.Statement (.rsvdRd dlab offset) := by
  intro h _
  obtain ⟨hm, hn⟩ := reserved_key_hits_no_row false dlab offset h
  simp only [encodeAt, decode, decodeBus, hm, hn]
  simp [fallback]

theorem RoundTrip.rsvdWr (dlab : Bool) (offset : Byte) (wdata : Word) :
    RoundTrip.Statement (.rsvdWr dlab offset wdata) := by
  intro h _
  obtain ⟨hm, hn⟩ := reserved_key_hits_no_row true dlab offset h
  simp only [encodeAt, decode, decodeBus, hm, hn]
  simp [fallback]

end Sys2Proof.Laws
end

