-- ==== Sys2Proof/Machine/AsmText.lean ====
section
/-! DEFINITION. The textual syntax of 30_encoding.md R78: `RD <REG>`, `WR <REG>, 0x..` and
`EV <NAME>(operands)`. -/

namespace Sys2Proof.Machine

/-- The name of a register (30_encoding.md R62). -/
def RegName.text : RegName → String
  | .rbr => "RBR"
  | .thr => "THR"
  | .dll => "DLL"
  | .dlh => "DLH"
  | .ier => "IER"
  | .iir => "IIR"
  | .fcr => "FCR"
  | .lcr => "LCR"
  | .mcr => "MCR"
  | .lsr => "LSR"
  | .msr => "MSR"
  | .scr => "SCR"
  | .usr => "USR"
  | .tfl => "TFL"
  | .rfl => "RFL"
  | .dlf => "DLF"
  | .cpr => "CPR"
  | .ucv => "UCV"
  | .ctr => "CTR"

/-- A value in hexadecimal, without leading zeros (DESIGN CHOICE, safe: log 28). -/
def hexText (n : Nat) : String := "0x" ++ String.ofList ((Nat.toDigits 16 n).map Char.toUpper)

def readText (r : RegName) : String := "RD " ++ r.text

def writeText (r : RegName) (v : Word) : String := "WR " ++ r.text ++ ", " ++ hexText v.toNat

def bitText (b : Bool) : String := if b then "1" else "0"

/-- An operation in the syntax of R78. A reserved offset has no register name; it is written as its
offset (DESIGN CHOICE, safe: log 28). -/
def asmText : Instr → String
  | .rdRbr => readText .rbr
  | .wrThr w => writeText .thr w
  | .rdScr => readText .scr
  | .wrScr w => writeText .scr w
  | .rdDll => readText .dll
  | .wrDll w => writeText .dll w
  | .rdDlh => readText .dlh
  | .wrDlh w => writeText .dlh w
  | .wrLcr w => writeText .lcr w
  | .rdLcr => readText .lcr
  | .rdDlf => readText .dlf
  | .wrDlf w => writeText .dlf w
  | .rdIer => readText .ier
  | .wrIer w => writeText .ier w
  | .rdIir => readText .iir
  | .wrFcr w => writeText .fcr w
  | .rdMcr => readText .mcr
  | .wrMcr w => writeText .mcr w
  | .rdLsr => readText .lsr
  | .rdUsr => readText .usr
  | .rdMsr => readText .msr
  | .rdTfl => readText .tfl
  | .rdRfl => readText .rfl
  | .rdCpr => readText .cpr
  | .rdUcv => readText .ucv
  | .rdCtr => readText .ctr
  | .wrLsr w => writeText .lsr w
  | .wrMsr w => writeText .msr w
  | .wrUsr w => writeText .usr w
  | .wrTfl w => writeText .tfl w
  | .wrRfl w => writeText .rfl w
  | .wrCpr w => writeText .cpr w
  | .wrUcv w => writeText .ucv w
  | .wrCtr w => writeText .ctr w
  | .rsvdRd _ o => "RD " ++ hexText o.toNat
  | .rsvdWr _ o w => "WR " ++ hexText o.toNat ++ ", " ++ hexText w.toNat
  | .txTake => "EV TX_TAKE"
  | .txDone => "EV TX_DONE"
  | .rxStart => "EV RX_START"
  | .rxChar b pe fe bi =>
    "EV RX_CHAR(" ++ hexText b.toNat ++ ", pe=" ++ bitText pe ++ ", fe=" ++ bitText fe ++
      ", bi=" ++ bitText bi ++ ")"
  | .modemChange lines =>
    "EV MODEM_CHANGE(0b" ++ bitText (lines.getLsbD 3) ++ bitText (lines.getLsbD 2) ++
      bitText (lines.getLsbD 1) ++ bitText (lines.getLsbD 0) ++ ")"
  | .reset => "EV RESET"

end Sys2Proof.Machine
end

