-- ==== Sys2Proof/Tests/Slice0.lean ====
section
/-! SUPPORT. The author's own tests: words written out from the encoding tables of 30_encoding.md,
ill-formed terms, one-step vectors worked out by hand in spec/95_test_vectors.md (their names V-…
stand in the docstrings), and a witness for every statement that has hypotheses. -/

namespace Sys2Proof.Tests

open Sys2Proof Sys2Proof.Machine

/-! ### Small states -/

/-- `S_RESET` of 95_test_vectors.md: FIFO_DEPTH = 16, BUSY_ON_RX_DATA = false, `msr_in` drawn as 0. -/
def sReset : State :=
  { State.reset with params := ⟨15, false, 0x11, 0x22, 0x33, 0x4000⟩, msrIn := 0 }

/-- `S_CONF` of 95_test_vectors.md. -/
def sConf : State := { sReset with lcr := 0x03, dll := 0x1A, fifoe := true }

/-- Sixteen bytes. -/
def full16 : List Byte :=
  [0x00, 0x01, 0x02, 0x03, 0x04, 0x05, 0x06, 0x07, 0x08, 0x09, 0x0A, 0x0B, 0x0C, 0x0D, 0x0E, 0x0F]

/-- Both FIFOs full. -/
def bothFull : State := { sConf with txFifo := full16, rxFifo := full16 }

/-- A part of the next state, if there is one. -/
def after {α : Type} (o : Host.Outcome State Fault Refusal) (f : State → α) : Option α :=
  match o with
  | .next t => some (f t)
  | .fault _ => none
  | .refused _ => none

/-- Why a step was refused, if it was. -/
def refusal (o : Host.Outcome State Fault Refusal) : Option Refusal :=
  match o with
  | .refused r => some r
  | .next _ => none
  | .fault _ => none

/-- Whether a step answered a fault. -/
def faults (o : Host.Outcome State Fault Refusal) : Bool :=
  match o with
  | .fault _ => true
  | .next _ => false
  | .refused _ => false

/-! ### Ill-formed operations are refused by the check (30_encoding.md R77) -/

theorem test_wf_rejects_register_offset : (Instr.rsvdRd false 0x00).wellFormed = false := by decide
theorem test_wf_rejects_unaligned_offset : (Instr.rsvdRd false 0x21).wellFormed = false := by decide
theorem test_wf_rejects_usr_offset : (Instr.rsvdWr true 0x7C 0).wellFormed = false := by decide
theorem test_wf_rejects_dlf_in_divisor_window : (Instr.rsvdWr true 0xC0 0).wellFormed = false := by decide
theorem test_wf_accepts_bounds :
    (Instr.rsvdRd false 0x20).wellFormed = true ∧ (Instr.rsvdRd true 0x78).wellFormed = true ∧
    (Instr.rsvdWr true 0x88 1).wellFormed = true ∧ (Instr.rsvdWr false 0xBC 1).wellFormed = true ∧
    (Instr.rsvdRd true 0xC4).wellFormed = true ∧ (Instr.rsvdRd false 0xF0).wellFormed = true ∧
    (Instr.rsvdRd false 0xC0).wellFormed = true := by decide

/-! ### Words written out from R63 (key in bits 9:0, `wdata` from bit 16 on) and R80 -/

theorem test_decode_rdRbr : decodeTableWord 16 0x000 = some .rdRbr := by decide
theorem test_decode_rdScr : decodeTableWord 16 0x01C = some .rdScr ∧ decodeTableWord 16 0x11C = some .rdScr := by decide
theorem test_decode_rdDll : decodeTableWord 16 0x100 = some .rdDll := by decide
theorem test_decode_rdDlh : decodeTableWord 16 0x104 = some .rdDlh := by decide
theorem test_decode_rdLcr : decodeTableWord 16 0x00C = some .rdLcr ∧ decodeTableWord 16 0x10C = some .rdLcr := by decide
theorem test_decode_rdDlf : decodeTableWord 16 0x1C0 = some .rdDlf := by decide
theorem test_decode_rdIer : decodeTableWord 16 0x004 = some .rdIer := by decide
theorem test_decode_rdIir : decodeTableWord 16 0x008 = some .rdIir ∧ decodeTableWord 16 0x108 = some .rdIir := by decide
theorem test_decode_rdMcr : decodeTableWord 16 0x010 = some .rdMcr ∧ decodeTableWord 16 0x110 = some .rdMcr := by decide
theorem test_decode_rdLsr : decodeTableWord 16 0x014 = some .rdLsr ∧ decodeTableWord 16 0x114 = some .rdLsr := by decide
theorem test_decode_rdUsr : decodeTableWord 16 0x07C = some .rdUsr ∧ decodeTableWord 16 0x17C = some .rdUsr := by decide
theorem test_decode_rdMsr : decodeTableWord 16 0x018 = some .rdMsr ∧ decodeTableWord 16 0x118 = some .rdMsr := by decide
theorem test_decode_rdTfl : decodeTableWord 16 0x080 = some .rdTfl ∧ decodeTableWord 16 0x180 = some .rdTfl := by decide
theorem test_decode_rdRfl : decodeTableWord 16 0x084 = some .rdRfl ∧ decodeTableWord 16 0x184 = some .rdRfl := by decide
theorem test_decode_rdCpr : decodeTableWord 16 0x0F4 = some .rdCpr ∧ decodeTableWord 16 0x1F4 = some .rdCpr := by decide
theorem test_decode_rdUcv : decodeTableWord 16 0x0F8 = some .rdUcv ∧ decodeTableWord 16 0x1F8 = some .rdUcv := by decide
theorem test_decode_rdCtr : decodeTableWord 16 0x0FC = some .rdCtr ∧ decodeTableWord 16 0x1FC = some .rdCtr := by decide
theorem test_decode_wrThr :
    decodeTableWord 48 0x123456780200 = some (.wrThr 0x12345678) := by decide
theorem test_decode_wrScr :
    decodeTableWord 48 0x12345678021C = some (.wrScr 0x12345678) ∧
    decodeTableWord 16 0x31C = some (.wrScr 0) := by decide
theorem test_decode_wrDll :
    decodeTableWord 48 0x123456780300 = some (.wrDll 0x12345678) := by decide
theorem test_decode_wrDlh :
    decodeTableWord 48 0x123456780304 = some (.wrDlh 0x12345678) := by decide
theorem test_decode_wrLcr :
    decodeTableWord 48 0x12345678020C = some (.wrLcr 0x12345678) ∧
    decodeTableWord 16 0x30C = some (.wrLcr 0) := by decide
theorem test_decode_wrDlf :
    decodeTableWord 48 0x1234567803C0 = some (.wrDlf 0x12345678) := by decide
theorem test_decode_wrIer :
    decodeTableWord 48 0x123456780204 = some (.wrIer 0x12345678) := by decide
theorem test_decode_wrFcr :
    decodeTableWord 48 0x123456780208 = some (.wrFcr 0x12345678) ∧
    decodeTableWord 16 0x308 = some (.wrFcr 0) := by decide
theorem test_decode_wrMcr :
    decodeTableWord 48 0x123456780210 = some (.wrMcr 0x12345678) ∧
    decodeTableWord 16 0x310 = some (.wrMcr 0) := by decide
theorem test_decode_wrLsr :
    decodeTableWord 48 0x123456780214 = some (.wrLsr 0x12345678) ∧
    decodeTableWord 16 0x314 = some (.wrLsr 0) := by decide
theorem test_decode_wrMsr :
    decodeTableWord 48 0x123456780218 = some (.wrMsr 0x12345678) ∧
    decodeTableWord 16 0x318 = some (.wrMsr 0) := by decide
theorem test_decode_wrUsr :
    decodeTableWord 48 0x12345678027C = some (.wrUsr 0x12345678) ∧
    decodeTableWord 16 0x37C = some (.wrUsr 0) := by decide
theorem test_decode_wrTfl :
    decodeTableWord 48 0x123456780280 = some (.wrTfl 0x12345678) ∧
    decodeTableWord 16 0x380 = some (.wrTfl 0) := by decide
theorem test_decode_wrRfl :
    decodeTableWord 48 0x123456780284 = some (.wrRfl 0x12345678) ∧
    decodeTableWord 16 0x384 = some (.wrRfl 0) := by decide
theorem test_decode_wrCpr :
    decodeTableWord 48 0x1234567802F4 = some (.wrCpr 0x12345678) ∧
    decodeTableWord 16 0x3F4 = some (.wrCpr 0) := by decide
theorem test_decode_wrUcv :
    decodeTableWord 48 0x1234567802F8 = some (.wrUcv 0x12345678) ∧
    decodeTableWord 16 0x3F8 = some (.wrUcv 0) := by decide
theorem test_decode_wrCtr :
    decodeTableWord 48 0x1234567802FC = some (.wrCtr 0x12345678) ∧
    decodeTableWord 16 0x3FC = some (.wrCtr 0) := by decide
theorem test_decode_rsvdRd :
    decodeTableWord 16 0x0C0 = some (.rsvdRd false 0xC0) ∧
    decodeTableWord 16 0x120 = some (.rsvdRd true 0x20) := by decide
theorem test_decode_rsvdWr :
    decodeTableWord 48 0x000000550288 = some (.rsvdWr false 0x88 0x55) ∧
    decodeTableWord 16 0x2C0 = some (.rsvdWr false 0xC0 0) := by decide
theorem test_decode_txTake : decodeTableWord 3 0x0 = some .txTake := by decide
theorem test_decode_txDone : decodeTableWord 3 0x1 = some .txDone := by decide
theorem test_decode_rxStart : decodeTableWord 3 0x2 = some .rxStart := by decide
/-- `byte` 0x41 in bits 15:8, `fe` in bit 17 (log 7). -/
theorem test_decode_rxChar : decodeTableWord 8 0x24103 = some (.rxChar 0x41 false true false) := by decide
/-- `lines` 0b1001 in bits 11:8 (log 7). -/
theorem test_decode_modemChange : decodeTableWord 8 0x904 = some (.modemChange 0x9) := by decide
theorem test_decode_reset : decodeTableWord 8 0x5 = some .reset := by decide
/-- V-D25, and the unused event codes and stray operand bits of R80 (log 7). -/
theorem test_decode_refuses :
    decodeTableWord 16 0x002 = none ∧ decodeTableWord 8 0x6 = none ∧ decodeTableWord 8 0x7 = none ∧
    decodeTableWord 8 0x105 = none ∧ decodeTableWord 8 0x1004 = none ∧
    decodeTableWord 16 0x400 = none := by decide

/-! ### Data path (95_test_vectors.md 2.2) -/

/-- V-D30. -/
theorem test_rdRbr_pops :
    after (exec .rdRbr { sConf with rxFifo := [0x41, 0x42] }) (fun t => (t.replies, t.rxFifo)) =
      some ([0x41], [0x42]) := by decide
/-- V-D33. -/
theorem test_rdRbr_keeps_latches :
    after (exec .rdRbr { sConf with rxFifo := [0x41], pe := true }) (fun t => t.pe) = some true := by decide
/-- V-D35. -/
theorem test_wrThr_drops_high_bits :
    after (exec (.wrThr 0x12345641) sConf) (fun t => t.txFifo) = some [0x41] := by decide
/-- V-D37: with the FIFOs disabled the second byte is lost. -/
theorem test_wrThr_full_loses_byte :
    after (exec (.wrThr 0x32) { sReset with txFifo := [0x31] }) (fun t => t.txFifo) = some [0x31] := by decide
/-- V-D39. -/
theorem test_wrScr_truncates : after (exec (.wrScr 0x1FF) sConf) (fun t => t.scr) = some 0xFF := by decide
theorem test_rdScr : after (exec .rdScr { sConf with scr := 0xA5 }) lastReply = some 0xA5 := by decide

/-! ### Line configuration (2.3) -/

/-- V-D63. -/
theorem test_wrLcr_opens_window :
    after (exec (.wrLcr 0x80) sReset) (fun t => (t.lcr, lineMode t)) = some (0x80, .divisor) := by decide
/-- V-D68. -/
theorem test_wrLcr_busy :
    refusal (exec (.wrLcr 0x83) { sConf with txShift := some 0x41 }) = some .busyWrite := by decide
/-- V-D72: reads are never guarded. -/
theorem test_rdLcr_while_busy :
    after (exec .rdLcr { sConf with txShift := some 0x41 }) lastReply = some 0x03 := by decide
/-- V-D64, V-D75. -/
theorem test_wrDll_leaves_dlh :
    after (exec (.wrDll 0x00) { sConf with dll := 0xFF, dlh := 0x00 }) (fun t => (t.dll, t.dlh)) =
      some (0x00, 0x00) := by decide
theorem test_rdDll : after (exec .rdDll { sConf with dll := 0x1A }) lastReply = some 0x1A := by decide
/-- V-D65. -/
theorem test_wrDlh_truncates :
    after (exec (.wrDlh 0x102) sConf) (fun t => (t.dlh, t.ier)) = some (0x02, 0x00) := by decide
theorem test_rdDlh : after (exec .rdDlh { sConf with dlh := 0x02 }) lastReply = some 0x02 := by decide
/-- V-D66. -/
theorem test_wrDlf_truncates : after (exec (.wrDlf 0x12) sConf) (fun t => t.dlf) = some 0x2 := by decide
theorem test_rdDlf : after (exec .rdDlf { sConf with dlf := 0x2 }) lastReply = some 0x2 := by decide
/-- V-D71: unread data is busy on a chip with BUSY_ON_RX_DATA; V-D70: not on one without. -/
theorem test_busy_on_rx_data :
    refusal (exec (.wrLcr 0x83)
      { sConf with params := ⟨15, true, 0, 0, 0, 0⟩, rxFifo := [0x41] }) = some .busyWrite ∧
    after (exec (.wrLcr 0x83) { sConf with rxFifo := [0x41] }) (fun t => t.lcr) = some 0x83 := by decide

/-! ### Control (2.4) -/

/-- V-D83. -/
theorem test_wrFcr_resets_tx :
    after (exec (.wrFcr 0x05) { sConf with txFifo := [1, 2], txShift := some 0, rxFifo := [9] })
      (fun t => (t.txFifo, t.txShift, t.rxFifo)) = some ([], some 0, [9]) := by decide
/-- V-D84, V-D85. -/
theorem test_wrFcr_enable_and_fields :
    after (exec (.wrFcr 0x00) { sConf with txFifo := [1, 2], rxFifo := [9] })
      (fun t => (t.txFifo, t.rxFifo, t.fifoe)) = some ([], [], false) ∧
    after (exec (.wrFcr 0xC9) { sConf with rxFifo := [9] }) (fun t => (t.rt, t.tet, t.dmam, t.rxFifo)) =
      some (3, 0, true, [9]) := by decide
/-- V-D89. -/
theorem test_wrIer_drops_reserved : after (exec (.wrIer 0x7F) sConf) (fun t => t.ier) = some 0x0F := by decide
/-- V-D90. -/
theorem test_wrIer_ptime : refusal (exec (.wrIer 0x80) sConf) = some .ptimeUnmodelled := by decide
theorem test_rdIer : after (exec .rdIer { sConf with ier := 0x05 }) lastReply = some 0x05 := by decide
/-- V-D87: whatever is read, nothing of the block changes. -/
theorem test_rdIir_keeps_state :
    after (exec .rdIir sConf) (fun t => { t with replies := [], draws := 1 }) = some sConf := by decide
/-- V-D93. -/
theorem test_wrMcr_drops_bit7 : after (exec (.wrMcr 0x8F) sConf) (fun t => t.mcr) = some 0x0F := by decide
/-- V-D94. -/
theorem test_wrMcr_modes :
    refusal (exec (.wrMcr 0x10) sConf) = some .modemModeUnmodelled ∧
    refusal (exec (.wrMcr 0x20) sConf) = some .modemModeUnmodelled ∧
    refusal (exec (.wrMcr 0x40) sConf) = some .modemModeUnmodelled := by decide
theorem test_rdMcr : after (exec .rdMcr { sConf with mcr := 0x03 }) lastReply = some 0x03 := by decide

/-! ### Status (2.5) -/

/-- V-D41, V-D44, V-D45: the value, but for the free bit 7. -/
theorem test_rdLsr_value :
    (∀ d, lsrValue { sConf with rxFifo := [0x00], fe := true, bi := true } d &&& 0x7F = 0x79) ∧
    (∀ d, lsrValue { sConf with rxFifo := [0x41], pe := true, txFifo := [0x55] } d &&& 0x7F = 0x05) ∧
    (∀ d, lsrValue { sConf with txShift := some 0x41 } d &&& 0x7F = 0x20) := by decide
/-- V-D47. -/
theorem test_rdLsr_clears :
    after (exec .rdLsr { sConf with oe := true, pe := true, fe := true, bi := true })
      (fun t => (t.oe, t.pe, t.fe, t.bi)) = some (false, false, false, false) := by decide
/-- V-D102, V-D106, V-D109. -/
theorem test_rdUsr_value :
    after (exec .rdUsr { sConf with txShift := some 1 }) lastReply = some 0x07 ∧
    after (exec .rdUsr { sConf with rxFifo := [1] }) lastReply = some 0x0E ∧
    after (exec .rdUsr { bothFull with txShift := some 1, rxActive := true }) lastReply = some 0x19 := by decide
/-- V-D110, V-D111: capacity 1 with the FIFOs disabled. -/
theorem test_rdUsr_fifos_off :
    after (exec .rdUsr { sReset with rxFifo := [1] }) lastReply = some 0x1E ∧
    after (exec .rdUsr { sReset with txFifo := [1] }) lastReply = some 0x01 := by decide
/-- V-D112. -/
theorem test_rdMsr :
    after (exec .rdMsr { sConf with msrIn := 1, msrDelta := 1 }) (fun t => (lastReply t, t.msrDelta)) =
      some (0x11, 0) := by decide
/-- V-D114. -/
theorem test_rdTfl :
    after (exec .rdTfl { sConf with txFifo := [1, 2, 3], txShift := some 0 }) lastReply = some 3 := by decide
/-- V-D115. -/
theorem test_rdRfl : after (exec .rdRfl { sConf with rxActive := true }) lastReply = some 0 := by decide
/-- V-D116. -/
theorem test_rdCpr : after (exec .rdCpr sConf) lastReply = some 0x11 := by decide
theorem test_rdUcv : after (exec .rdUcv sConf) lastReply = some 0x22 := by decide
theorem test_rdCtr : after (exec .rdCtr sConf) lastReply = some 0x33 := by decide
/-- V-D48. -/
theorem test_wrLsr_ignored :
    after (exec (.wrLsr 0) { sConf with oe := true }) (fun t => t.oe) = some true := by decide
theorem test_wrMsr_ignored :
    after (exec (.wrMsr 0) { sConf with msrDelta := 1 }) (fun t => t.msrDelta) = some 1 := by decide
theorem test_wrUsr_ignored : after (exec (.wrUsr 0xFF) sConf) id = some sConf := by decide
theorem test_wrTfl_ignored : after (exec (.wrTfl 0) sConf) id = some sConf := by decide
theorem test_wrRfl_ignored : after (exec (.wrRfl 0) sConf) id = some sConf := by decide
theorem test_wrCpr_ignored : after (exec (.wrCpr 0) sConf) id = some sConf := by decide
theorem test_wrUcv_ignored : after (exec (.wrUcv 0) sConf) id = some sConf := by decide
theorem test_wrCtr_ignored : after (exec (.wrCtr 0) sConf) id = some sConf := by decide
/-- V-D16, V-D20. -/
theorem test_rsvd_refused :
    refusal (exec (.rsvdRd false 0xC0) sConf) = some .reservedOffset ∧
    refusal (exec (.rsvdWr true 0x88 0) sConf) = some .reservedOffset := by decide

/-! ### Events (2.7) and reset (2.8) -/

/-- V-D120. -/
theorem test_txTake :
    after (exec .txTake { sConf with txFifo := [0x55, 0x56] }) (fun t => (t.txShift, t.txFifo)) =
      some (some 0x55, [0x56]) := by decide
/-- V-D121, V-D122. -/
theorem test_txTake_disabled :
    faults (exec .txTake sConf) = true ∧
    faults (exec .txTake { sConf with txFifo := [0x56], txShift := some 0x55 }) = true := by decide
/-- V-D123, V-D124. -/
theorem test_txDone_logs_break :
    after (exec .txDone { sConf with txShift := some 0x55 }) (fun t => (t.txLog, t.txShift)) =
      some ([(0x55, false)], none) ∧
    after (exec .txDone { sConf with txShift := some 0x55, lcr := 0x43 }) (fun t => t.txLog) =
      some [(0x55, true)] := by decide
/-- V-D126, V-D127. -/
theorem test_rxStart :
    after (exec .rxStart sConf) (fun t => (t.rxActive, usrValue t)) = some (true, 0x07) ∧
    faults (exec .rxStart { sConf with rxActive := true }) = true := by decide
/-- V-D131, V-D133. -/
theorem test_rxChar_latches_accumulate :
    after (exec (.rxChar 0x42 false true false) { sConf with pe := true, rxActive := true })
      (fun t => (t.pe, t.fe, t.rxFifo)) = some (true, true, [0x42]) ∧
    after (exec (.rxChar 0x32 false false false) { sReset with rxFifo := [0x31], rxActive := true })
      (fun t => (t.oe, t.rxFifo)) = some (true, [0x32]) := by decide
/-- V-D134, V-D128. -/
theorem test_rxChar_overrun :
    after (exec (.rxChar 0x40 true false false) { sConf with rxFifo := full16, rxActive := true })
      (fun t => (t.oe, t.pe, t.rxFifo)) = some (true, true, full16) ∧
    faults (exec (.rxChar 0x40 true false false) sConf) = true := by decide
/-- V-D113. -/
theorem test_modemChange :
    after (exec (.modemChange 0) { sConf with msrIn := 8, msrDelta := 8 })
      (fun t => (t.msrIn, t.msrDelta)) = some (0, 8) := by decide
/-- V-D137. -/
theorem test_reset :
    after (exec .reset { sConf with txLog := [(1, true)], oe := true })
      (fun t => { t with msrIn := 0, draws := 1 }) = some sReset := by decide

/-! ### The host sequences (Part 1, Part 3) -/

/-- V-S1 and V-D51: the arithmetic of CONFIGURE. -/
theorem test_divisor :
    divisorFor 115200 48000000 = 26 ∧ fracFor 115200 48000000 = 0 ∧
    divisorFor 115200 50000000 = 27 ∧ fracFor 115200 50000000 = 2 := by decide
/-- V-D62, and a zero clock (93_implementation_defined.md U2): no sequence starts. -/
theorem test_configure_no_meaning :
    (HostCall.configure 0 48000000).start = none ∧ (HostCall.configure 115200 0).start = none ∧
    (HostCall.configure 0x10000000 0xFFFFFFFF).start = none := by decide
/-- Part 2.6: full-byte examples. -/
theorem test_rxClass :
    rxClass 0x60 = .noData ∧ rxClass 0xE1 = .data ∧ rxClass 0x63 = .overrunError ∧
    rxClass 0x65 = .parityError ∧ rxClass 0x69 = .framingError ∧ rxClass 0xFF = .breakError := by decide
/-- V-S7. -/
theorem test_recompose :
    recompose .lcr 0x5B = 0x5B ∧ recompose .lsr 0xF9 = 0x79 ∧ recompose .usr 0xE6 = 0x06 ∧
    recompose .ier 0x75 = 0x05 ∧ recompose .fcr 0xC7 = 0xC7 := by decide
/-- R78. -/
theorem test_asm_text :
    asmText (.wrLcr 0x83) = "WR LCR, 0x83" ∧ asmText .rdLsr = "RD LSR" ∧
    asmText (.rxChar 0x41 false false false) = "EV RX_CHAR(0x41, pe=0, fe=0, bi=0)" := by decide

/-! ### Witnesses: the hypotheses of each statement are met, at the boundaries of each clause -/

theorem test_witness_DecodeOfEncode : (Instr.rsvdWr true 0x88 1).wellFormed = true := by decide
theorem test_witness_EncodeOfDecode :
    decode (.bus 0x30C 7) = .ok (.wrLcr 7) ∧ decode (.event 3 0x241) = .ok (.rxChar 0x41 false true false) :=
  ⟨rfl, rfl⟩
/-- Both windows of a 0x2FF row, a 0x3FF row, and an aligned key that no row finds. -/
theorem test_witness_DecodeFollowsTheTable :
    (0x01C : BitVec 10) &&& 0x2FF = 0x01C ∧ (0x11C : BitVec 10) &&& 0x2FF = 0x01C ∧
    (0x3C0 : BitVec 10) &&& 0x3FF = 0x3C0 ∧ ((0x2C0 : BitVec 10).setWidth 8).toNat % 4 = 0 ∧
    ∀ row ∈ busTable, (0x2C0 : BitVec 10) &&& row.mask ≠ row.pat := by decide
/-- Each range of R77 at both ends, and the offsets next to them. -/
theorem test_witness_ReservedOffsetsRefused :
    (∀ o ∈ [(0x20 : Byte), 0x78, 0x88, 0xBC, 0xC4, 0xF0],
      o.toNat % 4 = 0 ∧ decode (.bus (keyOf false true o) 0) = .ok (.rsvdRd true o)) ∧
    decode (.bus (keyOf true false 0xC0) 5) = .ok (.rsvdWr false 0xC0 5) ∧
    decode (.bus (keyOf true true 0xC0) 5) = .ok (.wrDlf 5) ∧
    decode (.bus (keyOf false true 0x1C) 0) = .ok .rdScr ∧
    decode (.bus (keyOf false true 0x7C) 0) = .ok .rdUsr ∧
    decode (.bus (keyOf false true 0x84) 0) = .ok .rdRfl ∧
    decode (.bus (keyOf false true 0xF4) 0) = .ok .rdCpr := by
  refine ⟨fun o ho => ?_, rfl, rfl, rfl, rfl, rfl, rfl⟩
  simp only [List.mem_cons, List.not_mem_nil, or_false] at ho
  rcases ho with rfl | rfl | rfl | rfl | rfl | rfl <;> exact ⟨rfl, rfl⟩
theorem test_witness_WindowMovesOnlyTheAliasedOffsets :
    dlab { sConf with lcr := 0x7F } = false ∧ (0x08 : Byte) ≠ 0x00 ∧ (0x08 : Byte) ≠ 0x04 ∧ (0x08 : Byte) ≠ 0xC0 ∧
    decode (.bus (keyOf false false 0x08) 0) = .ok .rdIir := ⟨by decide, by decide, by decide, by decide, rfl⟩
/-- An access in the divisor window, and an event. -/
theorem test_witness_StepRunsTheDecodedOperation :
    (State.inbox { sConf with lcr := 0x83, inbox := [.access true 0x00 4 0x55] } =
      [.access true 0x00 4 0x55] ∧
      decode (.bus (keyOf true ((0x83 : Byte).getLsbD 7) (BitVec.ofNat 8 0x00)) 0x55) = .ok (.wrDll 0x55)) ∧
    decode (.event 4 0x009) = .ok (.modemChange 9) ∧ sConf.inbox = [] := ⟨⟨rfl, rfl⟩, rfl, rfl⟩
/-- Served at the last offset; refused one word on, misaligned, and at another width (V-D25 to V-D27). -/
theorem test_witness_OnlyAlignedWordAccesses :
    after (step { sConf with inbox := [.access false 0xFC 4 0] }) lastReply = some 0x33 ∧
    refusal (step { sConf with inbox := [.access false 0x100 4 0] }) = some .badAccess ∧
    refusal (step { sConf with inbox := [.access false 0x02 4 0] }) = some .badAccess ∧
    refusal (step { sConf with inbox := [.access false 0x00 2 0] }) = some .badAccess := by decide
theorem test_witness_FetchWordRunsTheTableWord :
    decodeTableWord 48 0x1A0300 = some (.wrDll 0x1A) ∧ decodeTableWord 8 0x2 = some .rxStart ∧
    after (step (sConf.withFetchWord 48 0x550300)) (fun t => (t.lcr, t.dll)) = some (0x83, 0x55) := by decide
/-- RD_RBR with a byte and without one. -/
theorem test_witness_ReadReceiveBuffer :
    State.rxFifo { sConf with rxFifo := [1, 2] } = 1 :: [2] ∧ sConf.rxFifo = [] ∧
    rxLevel { sConf with rxFifo := full16 } ≤ rxCap { sConf with rxFifo := full16 } := by decide
/-- WR_THR with room for one byte more, and with none. -/
theorem test_witness_WriteTransmitHolding :
    full16.tail.length < (if sConf.fifoe then sConf.params.fifoDepth else 1) ∧
    ¬ full16.length < (if sConf.fifoe then sConf.params.fifoDepth else 1) := by decide
theorem test_witness_ConfigurationWrites :
    busy sConf = false ∧ busy { sConf with rxActive := true } = true := by decide
/-- V-D74, V-D92. -/
theorem test_witness_OutputsFollowTheConfiguration :
    after (exec (.wrLcr 0x7F) sConf) outputs = some ⟨0x001A, 0, 0x7F, true, 0⟩ ∧
    after (exec (.wrMcr 0x03) sConf) outputs = some ⟨0x001A, 0, 0x03, true, 3⟩ := by decide
theorem test_witness_ConfigurationStateMachine :
    after (exec (.wrLcr 0x80) sConf) lineMode = some .divisor := by decide
/-- `serial_clock = 16 × baud_rate`, and the largest remainder (V-D54, V-D55). -/
theorem test_witness_DivisorArithmeticFits :
    0 < (115200 : Word).toNat ∧ 16 * (115200 : Word).toNat ≤ (1843200 : Word).toNat ∧
    divisorFor 115200 3686399 = 1 ∧ fracFor 115200 3686399 = 15 := by decide
/-- V-D83: the enable bit as it is, a reset bit set; V-D80: the enable bit changed. -/
theorem test_witness_WriteFifoControl :
    (0x05 : Word).getLsbD 0 = sConf.fifoe ∧ (0x05 : Word).getLsbD 2 = true ∧
    (0x03 : Word).getLsbD 1 = true ∧ (0x01 : Word).getLsbD 0 ≠ sReset.fifoe := by decide
theorem test_witness_WriteInterruptEnable :
    (0x80 : Word).getLsbD 7 = true ∧ (0x7F : Word).getLsbD 7 = false := by decide
theorem test_witness_WriteModemControl :
    (0x10 : Word).getLsbD 4 = true ∧ (0x20 : Word).getLsbD 5 = true ∧ (0x40 : Word).getLsbD 6 = true ∧
    (0x8F : Word).getLsbD 4 = false ∧ (0x8F : Word).getLsbD 5 = false ∧
    (0x8F : Word).getLsbD 6 = false := by decide
theorem test_witness_ReadFifoLevels : full16.length < 2 ^ 32 := by decide
theorem test_witness_TakeTransmitByte :
    State.txFifo { sConf with txFifo := full16 } = 0 :: full16.tail ∧ sConf.txShift = none ∧
    txLevel { sConf with txFifo := full16 } ≤ txCap { sConf with txFifo := full16 } := by decide
theorem test_witness_FinishTransmitByte : State.txShift { sConf with txShift := some 7 } = some 7 := by decide
theorem test_witness_BeginReceiveCharacter : sConf.rxActive = false := by decide
theorem test_witness_DeliverReceiveCharacter : State.rxActive { sConf with rxActive := true } = true := by decide
/-- The invariants hold with both FIFOs full, and a step from there answers a next state. -/
theorem test_witness_StepKeepsTheInvariants :
    Inv { bothFull with ier := 0x0F, mcr := 0x0F, inbox := [.access false 0x00 4 0] } ∧
    after (step { bothFull with ier := 0x0F, mcr := 0x0F, inbox := [.access false 0x00 4 0] })
      (fun t => t.rxFifo) = some full16.tail := by decide
theorem test_witness_EnableChangeEmptiesFifos :
    after (exec (.wrFcr 0x00) { sConf with rxFifo := [9] }) (fun t => (t.fifoe, t.rxFifo)) =
      some (false, []) := by decide
/-- A latch that is set stays set; RD_LSR clears it; RX_CHAR sets one. -/
theorem test_witness_LatchesAreSticky :
    after (exec .rdRbr { sConf with oe := true, rxFifo := [1] }) (fun t => t.oe) = some true ∧
    after (exec .rdLsr { sConf with oe := true }) (fun t => t.oe) = some false ∧
    after (exec (.rxChar 1 false false true) { sConf with rxActive := true }) (fun t => t.bi) =
      some true := by decide
theorem test_witness_TransmitLogGrowsByTxDoneOnly :
    after (exec .txDone { sConf with txShift := some 7 }) (fun t => t.txLog) = some [(7, false)] := by decide
theorem test_witness_ParametersNeverChange :
    after (step { sConf with inbox := [.event 5 0] }) (fun t => t.params) = some sConf.params := by decide
/-- Program P2 of 95_test_vectors.md up to its third step: a byte accepted, taken and sent. -/
theorem test_witness_TransmitPathKeepsOrder :
    after (runOps [.wrThr 0x48, .txTake, .wrThr 0x69, .txDone] sConf) txPath = some [0x48, 0x69] ∧
    keepsTxAll [.wrThr 0x48, .txTake, .wrThr 0x69, .txDone] sConf = true ∧
    acceptedAll [.wrThr 0x48, .txTake, .wrThr 0x69, .txDone] sConf = [0x48, 0x69] := by decide
/-- RX_CHAR with the FIFO full, RD_RBR with data, and WR_FCR without effect on the FIFO. -/
theorem test_witness_ReceivePathKeepsOrder :
    keepsRx (.rxChar 1 false false false) { sConf with rxFifo := full16, rxActive := true } = true ∧
    keepsRx .rdRbr { sConf with rxFifo := [1] } = true ∧ keepsRx (.wrFcr 0x05) sConf = true ∧
    after (exec .rdRbr { sConf with rxFifo := [1] }) (fun t => t.replies) = some [1] := by decide
theorem test_witness_ReadinessPersists :
    tfnf sConf = true ∧ dr { sConf with rxFifo := [1] } = true ∧
    after (exec .rdLsr { sConf with rxFifo := [1] }) (fun t => (tfnf t, dr t)) = some (true, true) ∧
    (0x05 : Word).getLsbD 0 = sConf.fifoe ∧ (0x05 : Word).getLsbD 1 = false := by decide
theorem test_witness_ThirteenReadsAreRepeatable :
    Instr.rdUsr ∈ [Instr.rdDll, .rdDlh, .rdDlf, .rdIer, .rdLcr, .rdMcr, .rdScr, .rdUsr, .rdTfl, .rdRfl,
      .rdCpr, .rdUcv, .rdCtr] := by decide
theorem test_witness_WriteBackChangesNothing :
    Inv { sConf with ier := 0x0F, mcr := 0x0F } ∧ busy { sConf with ier := 0x0F, mcr := 0x0F } = false := by
  decide
theorem test_witness_QuiescentStateFlags :
    quiescent sConf ∧ quiescent { sConf with params := ⟨15, true, 0, 0, 0, 0⟩, rxFifo := [1] } := by decide
/-- Program P1 of 95_test_vectors.md: its premises, and its end state `S_CONF`. -/
theorem test_witness_ConfigureReachesItsEndState :
    (HostCall.configure 115200 48000000).start = some (.c0 115200 48000000) ∧ busy sReset = false ∧
    busy { sReset with rxActive := true } = true := by decide
/-- V-S2: the FIFO full, and with room for one byte. -/
theorem test_witness_WriteWordWaitsForRoom :
    dlab sConf = false ∧ txCap sConf ≤ full16.length ∧ full16.tail.length < txCap sConf := by decide
/-- V-S3 to V-S5: each case of READ_WORD. -/
theorem test_witness_ReadWordClassifiesOnce :
    dlab sConf = false ∧ afterLsr 0x7F = .done (.readError .breakError) ∧
    afterLsr 0x69 = .done (.readError .framingError) ∧ afterLsr 0x65 = .done (.readError .parityError) ∧
    afterLsr 0x63 = .done (.readError .overrunError) ∧ afterLsr 0x60 = .done (.readOk none) ∧
    afterLsr 0x61 = .r2 ∧ State.rxFifo { sConf with rxFifo := [0x41] } = 0x41 :: [] := by decide
/-- An owner within CONFIGURE, a view within FLUSH, a view between calls, and the block of program P6
of 95_test_vectors.md. -/
def hostSystem : HostSystem :=
  ⟨{ sConf with rxFifo := [0x5A], pe := true },
    [⟨.owner, .c4 115200 48000000⟩, ⟨.view, .f0⟩, ⟨.view, .idle⟩]⟩

/-- The thread `n` and the block after a turn that is answered. -/
def afterTurn {α : Type} (h : HostSystem) (turn : Turn) (n : Nat)
    (f : Option HostThread → State → α) : Option α :=
  match h.step turn with
  | .next h' => some (f h'.threads[n]? h'.dev)
  | .fault _ => none
  | .refused _ => none

/-- Why a turn is refused. -/
def turnRefusal (h : HostSystem) (turn : Turn) : Option HostRefusal :=
  match h.step turn with
  | .next _ => none
  | .fault _ => none
  | .refused r => some r

/-- The view that flushes is in a call, and the view between calls issues RD_LSR, or WR_MCR. -/
theorem test_witness_SharedViewTouchesOnlyLatches :
    hostSystem.wellFormed = true ∧ hostSystem.oneOwner = true ∧
    hostSystem.threads[1]? = some ⟨.view, .f0⟩ ∧ hostSystem.threads[2]? = some ⟨.view, .idle⟩ ∧
    HostPc.access .f0 = some (.access false 0x14 4 0) ∧ HostPc.call .idle = none ∧
    nextInstr hostSystem.dev (.access false 0x14 4 0) = .ok .rdLsr ∧
    nextInstr hostSystem.dev (.access true 0x10 4 0) = .ok (.wrMcr 0) ∧
    HostCall.flush.accessClass = .view ∧ HostCall.readWord.accessClass = .owner ∧
    afterTurn hostSystem (.thread 1) 1 (fun _ d => d.pe) = some false ∧
    afterTurn hostSystem (.act 2 (.issue false 0x14 4 0)) 2 (fun _ d => d.pe) = some false :=
  ⟨by decide, by decide, rfl, rfl, rfl, rfl, rfl, rfl, by decide, by decide, by decide, by decide⟩

/-- A view at a label of WRITE_WORD, which only an ill-formed set of threads has: its next access
decodes to WR_THR. -/
theorem test_witness_SharedViewOutsideItsClass :
    let h : HostSystem := ⟨sConf, [⟨.view, .w1 0x41⟩]⟩
    h.oneOwner = true ∧ h.wellFormed = false ∧ h.threads[0]? = some ⟨.view, .w1 0x41⟩ ∧
    HostPc.access (.w1 0x41) = some (.access true 0x00 4 0x41) ∧
    nextInstr h.dev (.access true 0x00 4 0x41) = .ok (.wrThr 0x41) :=
  ⟨by decide, by decide, rfl, rfl, rfl⟩

/-- R188: READ_WORD is no view's to call, an owner calls it, and a view at its first label is refused. -/
theorem test_read_word_is_exclusive :
    turnRefusal hostSystem (.act 2 (.call .readWord)) = some .outsideClass ∧
    afterTurn ⟨sConf, [⟨.owner, .idle⟩]⟩ (.act 0 (.call .readWord)) 0 (fun th _ => th) =
      some (some ⟨.owner, .r0⟩) ∧
    turnRefusal ⟨sConf, [⟨.view, .r0⟩]⟩ (.thread 0) = some .outsideClass := by decide
/-- R210 and R212: the handle is obtained once it has been dropped, by one thread at a time. -/
theorem test_handle_changes_hands :
    turnRefusal hostSystem (.act 2 .obtain) = some .twoOwners ∧
    turnRefusal hostSystem (.act 0 .drop) = some .withinCall ∧
    afterTurn ⟨sConf, [⟨.owner, .idle⟩]⟩ (.act 0 .drop) 0 (fun th _ => th) = some (some ⟨.view, .idle⟩) ∧
    afterTurn ⟨sConf, [⟨.view, .idle⟩, ⟨.view, .f0⟩]⟩ (.act 0 .obtain) 0 (fun th _ => th) =
      some (some ⟨.owner, .idle⟩) := by decide
/-- R210: the owner issues any bus operation of its own; P2: a done thread makes its next call. -/
theorem test_owner_acts :
    afterTurn ⟨sConf, [⟨.owner, .idle⟩]⟩ (.act 0 (.issue true 0x10 4 0x03)) 0
      (fun th d => (th, d.mcr)) = some (some ⟨.owner, .done .unit⟩, 0x03) ∧
    afterTurn ⟨sConf, [⟨.owner, .done .unit⟩]⟩ (.act 0 (.call (.writeWord 0x69))) 0
      (fun th _ => th) = some (some ⟨.owner, .w0 0x69⟩) := by decide

/-- A run that sends one byte and then only writes to a read-only register. -/
def drainRun : Run where
  state
    | 0 => { sConf with txFifo := [0x55] }
    | 1 => { sConf with txShift := some 0x55 }
    | _ + 2 => { sConf with txLog := [(0x55, false)] }
  op
    | 0 => .txTake
    | 1 => .txDone
    | _ + 2 => .wrLsr 0
  steps
    | 0 => rfl
    | 1 => rfl
    | _ + 2 => rfl

/-- The run is fair, transmits nothing new, is never reset, and has a divisor that is not zero. -/
theorem test_witness_FairRunDrainsTheTransmitter :
    drainRun.fair ∧
    (∀ m, 0 ≤ m → (∀ w, drainRun.op m ≠ .wrThr w) ∧ drainRun.op m ≠ .reset ∧
      divisorInt (drainRun.state m) ≠ 0) ∧ temt (drainRun.state 0) = false := by
  refine ⟨fun n => ⟨fun h => ?_, fun h => ?_⟩, fun m _ => ?_, by decide⟩
  · exact absurd (h (n + 2) (by omega)).1 Bool.false_ne_true
  · exact absurd (h (n + 2) (by omega)).1 Bool.false_ne_true
  · match m with
    | 0 => exact ⟨by simp [drainRun], by simp [drainRun], by decide⟩
    | 1 => exact ⟨by simp [drainRun], by simp [drainRun], by decide⟩
    | _ + 2 => exact ⟨by simp [drainRun], by simp [drainRun], by simp [drainRun]; decide⟩

end Sys2Proof.Tests
end

section
/-! SUPPORT. The parameters of the chip: no operation changes them (00_scope.md R5), and the two
settled statements of 00_scope.md. -/

namespace Sys2Proof.Machine

/-! ### What the three meanings with a case split of their own can answer -/

/-- RD_RBR answers the oldest byte, or any byte where there is none (40_data_path.md R90). -/
theorem execRdRbr_next_cases {s t : State} (h : execRdRbr s = .next t) :
    (∃ b bs, s.rxFifo = b :: bs ∧ reply (zext32 b) (popRx s) = t) ∨
      (s.rxFifo = [] ∧ reply (zext32 (drawn 8 s)) (useDraw s) = t) := by
  unfold execRdRbr at h
  split at h
  · next b bs hf => exact .inl ⟨b, bs, hf, Host.Outcome.next.inj h⟩
  · next hf => exact .inr ⟨hf, Host.Outcome.next.inj h⟩

/-- A write refused on the condition `c` answers only where `c` fails. -/
theorem refusedIf_next {c : Bool} {r : Refusal} {n t : State} :
    ((if c then .refused r else .next n : Host.Outcome State Fault Refusal) = .next t) ↔
      c = false ∧ n = t := by
  cases c <;> simp

/-- WR_IER answers only with bit 7 clear (42_fifo_modem_control.md R123). -/
theorem execWrIer_next {w : Word} {s t : State} :
    execWrIer w s = .next t ↔
      (decomposeIer (byteOperand w)).ptime = false ∧ { s with ier := byteOperand w &&& 0x0F } = t :=
  refusedIf_next

/-- WR_MCR answers only with the three mode bits clear (42_fifo_modem_control.md R126). -/
theorem execWrMcr_next {w : Word} {s t : State} :
    execWrMcr w s = .next t ↔
      ((decomposeMcr (byteOperand w)).lb || (decomposeMcr (byteOperand w)).afce ||
        (decomposeMcr (byteOperand w)).sire) = false ∧ { s with mcr := modemOperand w } = t :=
  refusedIf_next

/-! ### No operation changes the parameters -/

/-- RESET is no exception: `resetBlock` carries the parameters over (log 12). -/
theorem exec_params {i : Instr} {s t : State} (h : exec i s = .next t) : t.params = s.params := by
  cases i
  case rdRbr =>
    obtain ⟨b, bs, -, rfl⟩ | ⟨-, rfl⟩ := execRdRbr_next_cases h <;> simp
  case rdScr | rdDll | rdDlh | rdLcr | rdDlf | rdIer | rdIir | rdMcr | rdLsr | rdUsr | rdMsr
      | rdTfl | rdRfl | rdCpr | rdUcv | rdCtr | wrThr | wrScr | wrFcr | modemChange | reset =>
    obtain rfl := Host.Outcome.next.inj h
    simp
  case wrDll | wrDlh | wrLcr | wrDlf =>
    obtain ⟨-, rfl⟩ := unlessBusy_next.1 h
    rfl
  case wrIer =>
    obtain ⟨-, rfl⟩ := execWrIer_next.1 h
    rfl
  case wrMcr =>
    obtain ⟨-, rfl⟩ := execWrMcr_next.1 h
    rfl
  case wrLsr | wrMsr | wrUsr | wrTfl | wrRfl | wrCpr | wrUcv | wrCtr =>
    obtain rfl := Host.Outcome.next.inj h
    rfl
  case rsvdRd | rsvdWr => cases h
  case txTake | txDone | rxStart | rxChar =>
    obtain ⟨-, rfl⟩ := whenEnabled_next.1 h
    simp

/-- Settles O47: a step leaves the state, or runs one operation on it without the input taken. -/
theorem parametersNeverChange : Obligations.ParametersNeverChange := by
  intro s t h
  obtain ⟨-, rfl⟩ | ⟨x, rest, i, -, -, hx⟩ := step_next_cases h
  · rfl
  · calc
      t.params = ({ s with inbox := rest } : State).params := exec_params hx
      _ = s.params := rfl

/-! ### A step runs the operation that its input decodes to -/

/-- An event runs the operation that its code and operand bits decode to (30_encoding.md R80). -/
theorem serve_event {s : State} {ev : BitVec 3} {o : BitVec 11} {i : Instr}
    (h : decode (.event ev o) = .ok i) : serve s (.event ev o) = exec i s :=
  serve_of_nextInstr (nextInstr_ok_iff.2 ⟨_, rfl, h⟩)

/-- With no input pending the state stays (00_scope.md R8). -/
theorem step_nil {s : State} (h : s.inbox = []) : step s = .next s := by
  unfold step; rw [h]

/-- Settles O8: the input taken off the inbox is served, and taking it off leaves DLAB as it is. -/
theorem stepRunsTheDecodedOperation : Obligations.StepRunsTheDecodedOperation := by
  refine ⟨fun s wr offset w rest i hbox h4 hlt hd => ?_, fun s ev o rest i hbox hd => ?_,
    fun s hbox => step_nil hbox⟩
  · rw [step_cons hbox]
    exact serve_access h4 hlt hd
  · rw [step_cons hbox]
    exact serve_event hd

end Sys2Proof.Machine
end

section
/-! SUPPORT. Every operation as a guard and an effect, and what the effect is on the registers and
queues that the statements of 10_state.md speak of; the flags derived from them, and what RD_LSR and
RD_USR answer of the flags. -/

namespace Sys2Proof.Machine

/-! ### An operation is a guard and an effect -/

/-- Where an operation answers a next state: the busy guard (41_divisor_config.md R108), the refused
bits (42_fifo_modem_control.md R123, R126), the reserved offsets (30_encoding.md R77) and the event
preconditions (44_line_events.md R161 to R164). -/
def answers (i : Instr) (s : State) : Bool :=
  match i with
  | .wrDll _ | .wrDlh _ | .wrLcr _ | .wrDlf _ => !busy s
  | .wrIer w => !(decomposeIer (byteOperand w)).ptime
  | .wrMcr w => !((decomposeMcr (byteOperand w)).lb || (decomposeMcr (byteOperand w)).afce ||
      (decomposeMcr (byteOperand w)).sire)
  | .rsvdRd _ _ | .rsvdWr _ _ _ => false
  | .txTake => txTakeEnabled s
  | .txDone => txDoneEnabled s
  | .rxStart => rxStartEnabled s
  | .rxChar _ _ _ _ => rxCharEnabled s
  | .rdRbr | .wrThr _ | .rdScr | .wrScr _ | .rdDll | .rdDlh | .rdLcr | .rdDlf | .rdIer | .rdIir
  | .wrFcr _ | .rdMcr | .rdLsr | .rdUsr | .rdMsr | .rdTfl | .rdRfl | .rdCpr | .rdUcv | .rdCtr
  | .wrLsr _ | .wrMsr _ | .wrUsr _ | .wrTfl _ | .wrRfl _ | .wrCpr _ | .wrUcv _ | .wrCtr _
  | .modemChange _ | .reset => true

/-- The state that an operation leaves where it answers one. -/
def effect (i : Instr) (s : State) : State :=
  match i with
  | .rdRbr =>
    match s.rxFifo with
    | b :: _ => reply (zext32 b) (popRx s)
    | [] => reply (zext32 (drawn 8 s)) (useDraw s)
  | .wrThr w => pushTx (byteOperand w) s
  | .rdScr => reply (zext32 s.scr) s
  | .wrScr w => { s with scr := byteOperand w }
  | .rdDll => reply (zext32 s.dll) s
  | .wrDll w => { s with dll := byteOperand w }
  | .rdDlh => reply (zext32 s.dlh) s
  | .wrDlh w => { s with dlh := byteOperand w }
  | .wrLcr w => { s with lcr := byteOperand w }
  | .rdLcr => reply (zext32 s.lcr) s
  | .rdDlf => reply (zext32 s.dlf) s
  | .wrDlf w => { s with dlf := fracOperand w }
  | .rdIer => reply (zext32 s.ier) s
  | .wrIer w => { s with ier := byteOperand w &&& 0x0F }
  | .rdIir => reply (zext32 (drawn 8 s)) (useDraw s)
  | .wrFcr w => writeFcr (decomposeFcr (byteOperand w)) s
  | .rdMcr => reply (zext32 s.mcr) s
  | .wrMcr w => { s with mcr := modemOperand w }
  | .rdLsr =>
    reply (zext32 (lsrValue s ((drawn 1 s).getLsbD 0))) (clearErrors (useDraw s))
  | .rdUsr => reply (zext32 (usrValue s)) s
  | .rdMsr => reply (zext32 (msrValue s)) (clearDeltas s)
  | .rdTfl => reply (levelWord (txLevel s)) s
  | .rdRfl => reply (levelWord (rxLevel s)) s
  | .rdCpr => reply s.params.cprValue s
  | .rdUcv => reply s.params.ucvValue s
  | .rdCtr => reply s.params.ctrValue s
  | .txTake => takeTx s
  | .txDone => finishTx s
  | .rxStart => setRxActive true s
  | .rxChar b pe fe bi => storeRx b (latchErrors pe fe bi (setRxActive false s))
  | .modemChange lines => changeLines lines s
  | .reset => resetBlock s
  | .wrLsr _ | .wrMsr _ | .wrUsr _ | .wrTfl _ | .wrRfl _ | .wrCpr _
  | .wrUcv _ | .wrCtr _ | .rsvdRd _ _ | .rsvdWr _ _ _ => s

/-- A meaning without a guard. -/
theorem next_iff {n t : State} :
    (.next n : Host.Outcome State Fault Refusal) = .next t ↔ true = true ∧ n = t := by
  simp

/-- What an operation that answers a next state can do: its guard holds, and it has its effect. -/
theorem exec_next_iff {i : Instr} {s t : State} :
    exec i s = .next t ↔ answers i s = true ∧ effect i s = t := by
  cases i
  case rdRbr => cases h : s.rxFifo <;> simp [exec, execRdRbr, answers, effect, h]
  case wrDll | wrDlh | wrLcr | wrDlf => exact unlessBusy_next.trans (by simp [answers, effect])
  case wrIer => exact execWrIer_next.trans (by simp [answers, effect])
  case wrMcr => exact execWrMcr_next.trans (by simp [answers, effect])
  case rsvdRd | rsvdWr => exact iff_of_false nofun (fun h => Bool.false_ne_true h.1)
  case txTake | txDone | rxStart | rxChar => exact whenEnabled_next
  all_goals exact next_iff

/-! ### The effect on each register and queue -/

/-- Only WR_LCR and RESET change Line Control (41_divisor_config.md R104). -/
theorem effect_lcr (i : Instr) (s : State) :
    (effect i s).lcr =
      match i with
      | .wrLcr w => byteOperand w
      | .reset => 0
      | _ => s.lcr := by
  cases i
  case rdRbr => cases h : s.rxFifo <;> simp [effect, h]
  case wrThr | wrFcr | rxChar => simp [effect]
  all_goals rfl

/-- Only WR_FCR and RESET change the FIFO enable (42_fifo_modem_control.md R122). -/
theorem effect_fifoe (i : Instr) (s : State) :
    (effect i s).fifoe =
      match i with
      | .wrFcr w => (decomposeFcr (byteOperand w)).fifoe
      | .reset => false
      | _ => s.fifoe := by
  cases i
  case rdRbr => cases h : s.rxFifo <;> simp [effect, h]
  case wrThr | rxChar => simp [effect]
  all_goals rfl

/-- Only TX_DONE and RESET change the log of sent bytes (44_line_events.md R162). -/
theorem effect_txLog (i : Instr) (s : State) :
    (effect i s).txLog =
      match i with
      | .txDone => s.txLog ++ s.txShift.toList.map (fun b => (b, s.lcr.getLsbD 6))
      | .reset => []
      | _ => s.txLog := by
  cases i
  case rdRbr => cases h : s.rxFifo <;> simp [effect, h]
  case wrThr | wrFcr | rxChar => simp [effect]
  all_goals rfl

/-- A character is an overrun when the FIFO has no room for it (44_line_events.md R164). -/
@[simp] theorem storeRx_oe (b : Byte) (s : State) :
    (storeRx b s).oe = (s.oe || decide (rxCap s ≤ s.rxFifo.length)) := by
  obtain ⟨hr, hs⟩ | ⟨hr, -, hs⟩ | ⟨hr, -, hs⟩ := storeRx_cases b s
  · simp [hs, hr]
  · simp [hs, hr]
  · simp [hs, hr]

/-- The four error latches of 10_state.md R23, by name. -/
structure Latches where
  oe : Bool
  pe : Bool
  fe : Bool
  bi : Bool

/-- The latches of a state. -/
def latches (s : State) : Latches := ⟨s.oe, s.pe, s.fe, s.bi⟩

/-- Only RX_CHAR, RD_LSR and RESET change the error latches (10_state.md R23). -/
theorem effect_latches (i : Instr) (s : State) :
    latches (effect i s) =
      match i with
      | .rxChar _ pe fe bi =>
        ⟨s.oe || decide (rxCap s ≤ s.rxFifo.length), s.pe || pe, s.fe || fe, s.bi || bi⟩
      | .rdLsr | .reset => ⟨false, false, false, false⟩
      | _ => latches s := by
  cases i
  case rdRbr => cases h : s.rxFifo <;> simp [effect, latches, h]
  case rxChar =>
    have hcap (pe fe bi : Bool) : rxCap (latchErrors pe fe bi (setRxActive false s)) = rxCap s :=
      rxCap_congr rfl rfl
    simp [effect, latches, hcap]
  case wrThr | wrFcr => simp [effect, latches]
  all_goals rfl

/-! ### Derived flags -/

/-- The configuration state is bit 7 of Line Control (10_state.md R11). -/
theorem lineMode_eq (s : State) : lineMode s = if s.lcr.getLsbD 7 then .divisor else .normal := rfl

/-- The transmitter has drained only with its FIFO empty (10_state.md R25). -/
theorem thre_of_temt {s : State} (h : temt s = true) : thre s = true :=
  (thre_iff s).2 ((temt_iff s).1 h).1

/-- With no room the FIFO is not empty, because a capacity is at least 1 (00_scope.md R5). -/
theorem thre_of_not_tfnf {s : State} (h : tfnf s = false) : thre s = false := by
  rw [← Bool.not_eq_true, tfnf_iff] at h
  rw [← Bool.not_eq_true, thre_iff]
  intro hempty
  rw [hempty] at h
  exact h (txCap_pos s)

/-- Not busy says that nothing is queued and nothing is shifting (10_state.md R26). -/
theorem temt_of_not_busy {s : State} (h : busy s = false) : temt s = true := by
  obtain ⟨hfifo, hshift, -⟩ := (busy_eq_false_iff s).1 h
  exact (temt_iff s).2 ⟨hfifo, hshift⟩

/-! ### The readiness predicates on what the two reads answer (43_status.md R150) -/

/-- `zext_32` of a byte keeps its eight bits. -/
theorem zext32_getLsbD_of_lt (v : Byte) {i : Nat} (hi : i < 8) :
    (zext32 v).getLsbD i = v.getLsbD i := by
  rw [zext32_getLsbD, decide_eq_true (by omega), Bool.true_and]

theorem txDrained_lsrValue (s : State) (d : Bool) : txDrained (zext32 (lsrValue s d)) = temt s := by
  obtain ⟨-, -, -, -, -, -, htemt, -⟩ := lsrValue_bits s d
  exact (zext32_getLsbD_of_lt _ (by decide)).trans htemt

theorem txFifoEmpty_lsrValue (s : State) (d : Bool) :
    txFifoEmpty (zext32 (lsrValue s d)) = thre s := by
  obtain ⟨-, -, -, -, -, hthre, -⟩ := lsrValue_bits s d
  exact (zext32_getLsbD_of_lt _ (by decide)).trans hthre

theorem dataReady_lsrValue (s : State) (d : Bool) : dataReady (zext32 (lsrValue s d)) = dr s := by
  obtain ⟨hdr, -⟩ := lsrValue_bits s d
  exact (zext32_getLsbD_of_lt _ (by decide)).trans hdr

theorem isBusy_usrValue (s : State) : isBusy (zext32 (usrValue s)) = busy s := by
  obtain ⟨hbusy, -⟩ := usrValue_bits s
  exact (zext32_getLsbD_of_lt _ (by decide)).trans hbusy

theorem txFifoFull_usrValue (s : State) : txFifoFull (zext32 (usrValue s)) = !tfnf s := by
  obtain ⟨-, htfnf, -⟩ := usrValue_bits s
  exact congrArg _ ((zext32_getLsbD_of_lt _ (by decide)).trans htfnf)

theorem usrValue_tfe (s : State) : (zext32 (usrValue s)).getLsbD 2 = tfe s := by
  obtain ⟨-, -, htfe, -⟩ := usrValue_bits s
  exact (zext32_getLsbD_of_lt _ (by decide)).trans htfe

theorem usrValue_rfne (s : State) : (zext32 (usrValue s)).getLsbD 3 = rfne s := by
  obtain ⟨-, -, -, hrfne, -⟩ := usrValue_bits s
  exact (zext32_getLsbD_of_lt _ (by decide)).trans hrfne

end Sys2Proof.Machine
end

section
/-! SUPPORT. The state invariants of 10_state.md R31 under each shared operation, and the settled
statements of 10_state.md. -/

namespace Sys2Proof.Machine

/-! ### The invariants under the operations over the state -/

/-- Empty FIFOs are within any capacity. -/
theorem inv_of_empty {s : State} (htx : s.txFifo = []) (hrx : s.rxFifo = []) (hier : s.ier = 0)
    (hmcr : s.mcr = 0) : Inv s := by
  simp [Inv, htx, hrx, hier, hmcr]

/-- A byte is appended only where there is room. -/
theorem pushTx_inv (b : Byte) {s : State} (hs : Inv s) : Inv (pushTx b s) := by
  obtain ⟨htx, hrx, hier, hmcr⟩ := hs
  obtain ⟨hroom, h⟩ | ⟨-, h⟩ := pushTx_cases b s
  · rw [h]
    refine ⟨?_, hrx, hier, hmcr⟩
    calc (s.txFifo ++ [b]).length
        = s.txFifo.length + 1 := by simp
      _ ≤ txCap s := hroom
  · rw [h]
    exact ⟨htx, hrx, hier, hmcr⟩

theorem takeTx_inv {s : State} (hs : Inv s) : Inv (takeTx s) := by
  obtain ⟨htx, hrx, hier, hmcr⟩ := hs
  refine ⟨?_, hrx, hier, hmcr⟩
  calc s.txFifo.tail.length
      ≤ s.txFifo.length := by simp
    _ ≤ txCap s := htx

theorem popRx_inv {s : State} (hs : Inv s) : Inv (popRx s) := by
  obtain ⟨htx, hrx, hier, hmcr⟩ := hs
  refine ⟨htx, ?_, hier, hmcr⟩
  calc s.rxFifo.tail.length
      ≤ s.rxFifo.length := by simp
    _ ≤ rxCap s := hrx

/-- Where there is no room the FIFO stays, or the buffer register holds the one byte. -/
theorem storeRx_inv (b : Byte) {s : State} (hs : Inv s) : Inv (storeRx b s) := by
  obtain ⟨htx, hrx, hier, hmcr⟩ := hs
  obtain ⟨hroom, h⟩ | ⟨-, -, h⟩ | ⟨-, -, h⟩ := storeRx_cases b s
  · rw [h]
    refine ⟨htx, ?_, hier, hmcr⟩
    calc (s.rxFifo ++ [b]).length
        = s.rxFifo.length + 1 := by simp
      _ ≤ rxCap s := hroom
  · rw [h]
    exact ⟨htx, hrx, hier, hmcr⟩
  · rw [h]
    exact ⟨htx, rxCap_pos s, hier, hmcr⟩

/-- With the enable as it was the capacities are as they were; with the enable changed the FIFOs are
empty. -/
theorem writeFcr_inv (f : FcrFields) {s : State} (hs : Inv s) : Inv (writeFcr f s) := by
  obtain ⟨htx, hrx, hier, hmcr⟩ := hs
  by_cases hf : f.fifoe = s.fifoe
  · have htcap : txCap (writeFcr f s) = txCap s := txCap_congr (writeFcr_params f s) hf
    have hrcap : rxCap (writeFcr f s) = rxCap s := rxCap_congr (writeFcr_params f s) hf
    refine ⟨?_, ?_, by simpa using hier, by simpa using hmcr⟩
    · rw [htcap, writeFcr_txFifo]; split <;> simp [htx]
    · rw [hrcap, writeFcr_rxFifo]; split <;> simp [hrx]
  · simp [Inv, hf, hier, hmcr]

/-- The value that WR_IER stores has bits 7:4 zero (42_fifo_modem_control.md R123). -/
theorem maskedIer_high (v : Byte) : (v &&& 0x0F).extractLsb' 4 4 = 0 := by
  rw [BitVec.extractLsb'_and]
  exact BitVec.and_zero

/-- The value that WR_MCR stores has bits 6:4 zero where it is not refused
(42_fifo_modem_control.md R126). -/
theorem modemOperand_high {w : Word} {s : State} (h : answers (.wrMcr w) s = true) :
    (modemOperand w).extractLsb' 4 3 = 0 := by
  obtain ⟨⟨h4, h5⟩, h6⟩ : (w[4] = false ∧ w[5] = false) ∧ w[6] = false := by
    simpa [answers, decomposeMcr, byteOperand] using h
  apply BitVec.eq_of_getLsbD_eq
  intro i hi
  interval_cases i <;> simp [modemOperand, h4, h5, h6]

/-- Every operation keeps the state invariants. -/
theorem effect_inv {i : Instr} {s : State} (ha : answers i s = true) (hs : Inv s) :
    Inv (effect i s) := by
  cases i
  case rdRbr =>
    cases hf : s.rxFifo with
    | nil => simp only [effect, hf]; exact hs
    | cons b bs => simp only [effect, hf]; exact popRx_inv hs
  case wrThr w => exact pushTx_inv _ hs
  case txTake => exact takeTx_inv hs
  case rxChar b pe fe bi => exact storeRx_inv (s := latchErrors pe fe bi (setRxActive false s)) b hs
  case wrFcr w => exact writeFcr_inv _ hs
  case wrIer w =>
    obtain ⟨htx, hrx, -, hmcr⟩ := hs
    exact ⟨htx, hrx, maskedIer_high _, hmcr⟩
  case wrMcr w =>
    obtain ⟨htx, hrx, hier, -⟩ := hs
    exact ⟨htx, hrx, hier, modemOperand_high ha⟩
  case reset => exact inv_of_empty rfl rfl rfl rfl
  all_goals exact hs

/-! ### The settled statements -/

/-- Settles O42: nothing is queued, and both registers are 0. -/
theorem invariantsHoldAtReset : Obligations.InvariantsHoldAtReset :=
  inv_of_empty rfl rfl rfl rfl

/-- Settles O43: a step leaves the state, or runs one operation, each of which keeps the
invariants; they do not speak of the inbox that the input is taken off. -/
theorem stepKeepsTheInvariants : Obligations.StepKeepsTheInvariants := by
  intro s t hs h
  obtain ⟨-, rfl⟩ | ⟨x, rest, i, -, -, hx⟩ := step_next_cases h
  · exact hs
  · obtain ⟨ha, rfl⟩ := exec_next_iff.1 hx
    exact effect_inv ha hs

/-- Settles O18: the configuration state follows Line Control. -/
theorem configurationStateMachine : Obligations.ConfigurationStateMachine := by
  intro i s t h
  obtain ⟨-, rfl⟩ := exec_next_iff.1 h
  rw [lineMode_eq, effect_lcr]
  cases i
  case wrLcr w => simp [byteOperand]
  case reset => simp
  all_goals rfl

/-- Settles O30: each predicate is a flag of the state the two reads begin in, and the relations are
those between the flags. -/
theorem readinessRelations : Obligations.ReadinessRelations := by
  intro s
  refine ⟨_, _, _, _, rfl, rfl, rfl, rfl, ?_⟩
  rw [txDrained_lsrValue, txFifoEmpty_lsrValue, dataReady_lsrValue, isBusy_usrValue,
    txFifoFull_usrValue, usrValue_tfe, usrValue_rfne, Bool.not_eq_true']
  exact ⟨thre_of_temt, Iff.rfl, Iff.rfl, thre_of_not_tfnf, temt_of_not_busy⟩

/-- Settles O44: only WR_FCR and RESET change the enable, and both then empty the FIFOs. -/
theorem enableChangeEmptiesFifos : Obligations.EnableChangeEmptiesFifos := by
  intro i s t h hne
  obtain ⟨-, rfl⟩ := exec_next_iff.1 h
  rw [effect_fifoe] at hne
  cases i
  case wrFcr w => simp [effect, hne]
  case reset => exact ⟨rfl, rfl⟩
  all_goals exact absurd rfl hne

/-- Settles O45: the latches change by RX_CHAR, which only sets, and by RD_LSR and RESET, which
clear. -/
theorem latchesAreSticky : Obligations.LatchesAreSticky := by
  refine ⟨fun i s t h => ?_, rfl, rfl, rfl, rfl⟩
  obtain ⟨-, rfl⟩ := exec_next_iff.1 h
  have hl := effect_latches i s
  cases i
  all_goals obtain ⟨hoe, hpe, hfe, hbi⟩ := Latches.mk.inj hl
  case rxChar b pe fe bi =>
    refine ⟨fun _ _ => ?_, fun hne => absurd rfl (hne b pe fe bi), fun hclears => by simp at hclears⟩
    simp +contextual [hoe, hpe, hfe, hbi]
  all_goals simp [hoe, hpe, hfe, hbi]

/-- Settles O46: the log after each operation is that of its effect. -/
theorem transmitLogGrowsByTxDoneOnly : Obligations.TransmitLogGrowsByTxDoneOnly := by
  refine ⟨fun i s t h => ?_, rfl⟩
  obtain ⟨-, rfl⟩ := exec_next_iff.1 h
  cases i <;> exact effect_txLog _ s

end Sys2Proof.Machine
end

section
/-! SUPPORT. What decodes encodes back: the key of a table row in either window, the operations that
an event decodes to, and the settled statement on whole encodings. -/

namespace Sys2Proof

/-! ### The keys of a table row -/

/-- The key of a row in the window `dlab`: the bits outside the mask are those of the window. -/
def BusRow.keyIn (row : BusRow) (dlab : Bool) : BitVec 10 :=
  row.pat ||| (keyOf false dlab 0 &&& ~~~row.mask)

/-- Every mask of the table keeps all bits of the key but DLAB (30_encoding.md R63). -/
theorem busTable_mask :
    ∀ row ∈ busTable, ∀ (i : Nat) (_ : i < 10), row.mask[i] = true ∨ i = 8 := by
  decide

/-- A key that a row hits is the row's key in the window of the key. -/
theorem BusRow.eq_keyIn_of_hits {row : BusRow} {key : BitVec 10} (hm : row ∈ busTable)
    (h : row.hits key = true) : key = row.keyIn (keyDlab key) := by
  have hpat : key &&& row.mask = row.pat := beq_iff_eq.1 h
  apply BitVec.eq_of_getLsbD_eq
  intro i hi
  rw [BusRow.keyIn, ← hpat]
  obtain hone | rfl := busTable_mask row hm i hi
  · simp [hone, hi]
  · cases hd : key[8] <;> simp [keyDlab, keyOf, hd]

/-- In either window a row's operation is well formed and is encoded by the row's key there. -/
theorem BusRow.encodeAt_build : ∀ row ∈ busTable, ∀ (dlab : Bool) (w : Word),
    (row.build w).wellFormed = true ∧
      encodeAt dlab (row.build w) = (Encoded.bus (row.keyIn dlab) w).canonical := by
  intro row hm dlab w
  fin_cases hm <;> cases dlab <;> exact ⟨rfl, rfl⟩

/-- An aligned offset is reserved or has a row in the window (30_encoding.md R77), over the finitely
many aligned offsets: the converse of `reserved_hits_nothing`. -/
theorem reserved_or_hits :
    ∀ (wr dlab : Bool) (m : Fin 64),
      reservedOffset dlab (BitVec.ofNat 8 (4 * m)) = true ∨
        ∃ row ∈ busTable, row.hits (keyOf wr dlab (BitVec.ofNat 8 (4 * m))) = true := by
  decide +kernel

/-- An aligned key that no row hits has a reserved offset (30_encoding.md R77). -/
theorem reservedOffset_of_no_row {key : BitVec 10} (ha : (keyOffset key).toNat % 4 = 0)
    (hn : ∀ row ∈ busTable, row.hits key = false) :
    reservedOffset (keyDlab key) (keyOffset key) = true := by
  obtain ⟨m, hm⟩ := Nat.dvd_of_mod_eq_zero ha
  have hlt : m < 64 := by have := (keyOffset key).isLt; omega
  have hoff : BitVec.ofNat 8 (4 * m) = keyOffset key := by
    rw [← hm, BitVec.ofNat_toNat, BitVec.setWidth_eq]
  have hcases := reserved_or_hits (keyWr key) (keyDlab key) ⟨m, hlt⟩
  simp only [hoff, keyOf_fields] at hcases
  obtain hres | ⟨row, hrow, hhits⟩ := hcases
  · exact hres
  · exact absurd ((hn row hrow).symm.trans hhits) Bool.false_ne_true

/-- The fallback operation is encoded by the key it was decoded from. -/
theorem encodeAt_fallback (dlab : Bool) (key : BitVec 10) (w : Word) :
    encodeAt dlab (fallback key w) = (Encoded.bus key w).canonical := by
  have hkey := keyOf_fields key
  cases hw : keyWr key <;> rw [hw] at hkey <;> simp [fallback, hw, encodeAt, Encoded.canonical, hkey]

/-- The fallback operation is well formed at a reserved offset. -/
theorem wellFormed_fallback (key : BitVec 10) (w : Word) :
    (fallback key w).wellFormed = reservedOffset (keyDlab key) (keyOffset key) := by
  unfold fallback
  split <;> rfl

/-- A bus operation that decodes is well formed and encodes back (30_encoding.md R63, R77). -/
theorem encodeAt_of_decodeBus {key : BitVec 10} {w : Word} {i : Instr}
    (h : decodeBus key w = .ok i) :
    i.wellFormed = true ∧ encodeAt (keyDlab key) i = (Encoded.bus key w).canonical := by
  obtain ⟨ha, ⟨row, hm, hhits, rfl⟩ | ⟨hn, rfl⟩⟩ := decodeBus_ok h
  · have hkey := BusRow.eq_keyIn_of_hits hm hhits
    obtain ⟨hwf, henc⟩ := BusRow.encodeAt_build row hm (keyDlab key) w
    exact ⟨hwf, by rw [henc, ← hkey]⟩
  · exact ⟨(wellFormed_fallback key w).trans (reservedOffset_of_no_row ha hn),
      encodeAt_fallback _ key w⟩

/-- An aligned key decodes to some operation (30_encoding.md R63). -/
theorem exists_decodeBus {key : BitVec 10} (w : Word) (ha : (keyOffset key).toNat % 4 = 0) :
    ∃ i, decodeBus key w = .ok i := by
  unfold decodeBus
  rw [if_neg (not_not_intro ha)]
  split <;> exact ⟨_, rfl⟩

/-! ### Events -/

/-- What `decodeEvent` can answer (30_encoding.md R80). -/
theorem decodeEvent_ok {ev : BitVec 3} {o : BitVec 11} {i : Instr} (h : decodeEvent ev o = .ok i) :
    (o = 0 ∧ (ev = 0 ∧ i = .txTake ∨ ev = 1 ∧ i = .txDone ∨ ev = 2 ∧ i = .rxStart ∨
        ev = 5 ∧ i = .reset)) ∨
      (ev = 3 ∧ i = .rxChar (o.extractLsb' 0 8) (o.getLsbD 8) (o.getLsbD 9) (o.getLsbD 10)) ∨
      (ev = 4 ∧ o.extractLsb' 4 7 = 0 ∧ i = .modemChange (o.extractLsb' 0 4)) := by
  have hev (n : Nat) (hn : ev.toNat = n) : ev = BitVec.ofNat 3 n := by simp [← hn]
  unfold decodeEvent at h
  split at h
  case h_4 hn => exact .inr (.inl ⟨hev _ hn, (Except.ok.inj h).symm⟩)
  case h_7 => cases h
  all_goals
    next hn =>
    split at h
    · next ho => simp [hev _ hn, ho, ← Except.ok.inj h]
    · cases h

/-- The operand bits of RX_CHAR put together again from their places (log 7). -/
theorem rxCharOperands_fields (o : BitVec 11) :
    rxCharOperands (o.extractLsb' 0 8) (o.getLsbD 8) (o.getLsbD 9) (o.getLsbD 10) = o := by
  apply BitVec.eq_of_getLsbD_eq
  intro i hi
  simp only [rxCharOperands, BitVec.getLsbD_or, BitVec.getLsbD_shiftLeft, BitVec.getLsbD_setWidth,
    BitVec.getLsbD_extractLsb', BitVec.getLsbD_ofBool]
  interval_cases i <;> simp

/-- A field that is 0 has no bit set. -/
theorem getLsbD_of_field_zero {n lo len : Nat} {v : BitVec n} (h : v.extractLsb' lo len = 0) {i : Nat}
    (hlo : lo ≤ i) (hi : i < lo + len) : v.getLsbD i = false := by
  have hbit := congrArg (·.getLsbD (i - lo)) h
  simpa [show i - lo < len by omega, Nat.add_sub_cancel' hlo] using hbit

/-- With no stray operand bit the lines are all that MODEM_CHANGE has (log 7). -/
theorem modemOperands_fields {o : BitVec 11} (h : o.extractLsb' 4 7 = 0) :
    (o.extractLsb' 0 4).setWidth 11 = o := by
  apply BitVec.eq_of_getLsbD_eq
  intro i hi
  by_cases hlt : i < 4
  · simp [hlt, hi]
  · have hzero := getLsbD_of_field_zero h (not_lt.1 hlt) hi
    simp [hlt, hzero]

/-- An event that decodes is well formed and encodes back. -/
theorem encodeAt_of_decodeEvent {ev : BitVec 3} {o : BitVec 11} {i : Instr}
    (h : decodeEvent ev o = .ok i) :
    i.wellFormed = true ∧ ∀ dlab, encodeAt dlab i = .event ev o := by
  obtain ⟨rfl, ⟨rfl, rfl⟩ | ⟨rfl, rfl⟩ | ⟨rfl, rfl⟩ | ⟨rfl, rfl⟩⟩ | ⟨rfl, rfl⟩ | ⟨rfl, ho, rfl⟩ :=
    decodeEvent_ok h
  case inr.inl => exact ⟨rfl, fun _ => congrArg _ (rxCharOperands_fields o)⟩
  case inr.inr => exact ⟨rfl, fun _ => congrArg _ (modemOperands_fields ho)⟩
  all_goals exact ⟨rfl, fun _ => rfl⟩

/-- Settles O3: a bus operation by the table row that hits its key or by its reserved offset, an
event by its code and operand bits. -/
theorem encodeOfDecode : Obligations.EncodeOfDecode := by
  intro e i h
  cases e with
  | bus key w => exact encodeAt_of_decodeBus h
  | event ev o =>
    obtain ⟨hwf, henc⟩ := encodeAt_of_decodeEvent h
    exact ⟨hwf, henc _⟩

end Sys2Proof
end

section
/-! SUPPORT. The accesses that are served, the two FIFOs after each operation, and the read values as
write operands; with the settled statements of 20_memory.md. -/

namespace Sys2Proof.Machine

/-! ### Accesses -/

/-- An access that is not good is refused (20_memory.md R42). -/
theorem serve_badAccess {s : State} {wr : Bool} {offset width : Nat} {w : Word}
    (h : goodAccess offset width = false) :
    serve s (.access wr offset width w) = .refused .badAccess := by
  simp [serve, nextInstr, encodedInput, h]

/-- A good access stands for some operation (20_memory.md R42). -/
theorem exists_decode_access (wr dlab : Bool) {offset : Nat} (w : Word)
    (h4 : offset % 4 = 0) (hb : offset < 256) :
    ∃ i, decode (.bus (keyOf wr dlab (BitVec.ofNat 8 offset)) w) = .ok i := by
  apply exists_decodeBus
  rw [keyOffset_keyOf, BitVec.toNat_ofNat, Nat.mod_eq_of_lt hb]
  exact h4

/-- Settles O9: a good access is served by the operation its key decodes to; any other has no key. -/
theorem onlyAlignedWordAccesses : Obligations.OnlyAlignedWordAccesses := by
  intro s wr offset width w rest hbox
  rw [step_cons hbox]
  split
  · next hgood =>
    obtain ⟨rfl, h4, hb⟩ := hgood
    obtain ⟨i, hi⟩ := exists_decode_access wr (s.lcr.getLsbD 7) w h4 hb
    exact ⟨i, hi, serve_access h4 hb hi⟩
  · next hbad =>
    exact serve_badAccess (Bool.eq_false_iff.2 (hbad ∘ (goodAccess_iff offset width).1))

/-! ### The FIFOs after each operation -/

/-- Only WR_THR, WR_FCR, TX_TAKE and RESET change the transmit FIFO (10_state.md R19). -/
theorem effect_txFifo (i : Instr) (s : State) :
    (effect i s).txFifo =
      match i with
      | .wrThr w => (pushTx (byteOperand w) s).txFifo
      | .wrFcr w => (writeFcr (decomposeFcr (byteOperand w)) s).txFifo
      | .txTake => s.txFifo.tail
      | .reset => []
      | _ => s.txFifo := by
  cases i
  case rdRbr => cases h : s.rxFifo <;> simp [effect, h]
  case rxChar => simp [effect]
  all_goals rfl

/-- Only RD_RBR, WR_FCR, RX_CHAR and RESET change the receive FIFO (10_state.md R21). -/
theorem effect_rxFifo (i : Instr) (s : State) :
    (effect i s).rxFifo =
      match i with
      | .rdRbr => s.rxFifo.tail
      | .wrFcr w => (writeFcr (decomposeFcr (byteOperand w)) s).rxFifo
      | .rxChar b pe fe bi => (storeRx b (latchErrors pe fe bi (setRxActive false s))).rxFifo
      | .reset => []
      | _ => s.rxFifo := by
  cases i
  case rdRbr => cases h : s.rxFifo <;> simp [effect, h]
  case wrThr => simp [effect]
  all_goals rfl

/-- The enable bit of a WR_FCR is bit 0 of its word (30_encoding.md R71). -/
@[simp] theorem decomposeFcr_fifoe (w : Word) :
    (decomposeFcr (byteOperand w)).fifoe = w.getLsbD 0 := by
  simp [decomposeFcr, byteOperand]

/-- The receive reset bit of a WR_FCR is bit 1 of its word (30_encoding.md R71). -/
@[simp] theorem decomposeFcr_rfifor (w : Word) :
    (decomposeFcr (byteOperand w)).rfifor = w.getLsbD 1 := by
  simp [decomposeFcr, byteOperand]

/-! ### Readiness persists (20_memory.md R54) -/

/-- An empty transmit FIFO has room. -/
theorem tfnf_of_empty {s : State} (h : s.txFifo = []) : tfnf s = true := by
  simp [h, txCap_pos]

/-- Room stays where the FIFO is no longer and has the same capacity. -/
theorem tfnf_of_length_le {s t : State} (hp : t.params = s.params) (hf : t.fifoe = s.fifoe)
    (hle : t.txFifo.length ≤ s.txFifo.length) (h : tfnf s = true) : tfnf t = true := by
  rw [tfnf_iff] at h ⊢
  rw [txCap_congr hp hf]
  omega

/-- A write of FIFO Control with the enable bit as it is keeps the transmit FIFO or empties it; with
the bit changed it empties it. -/
theorem writeFcr_tfnf (f : FcrFields) {s : State} (h : tfnf s = true) :
    tfnf (writeFcr f s) = true := by
  by_cases he : f.fifoe ≠ s.fifoe ∨ f.xfifor = true
  · exact tfnf_of_empty (by rw [writeFcr_txFifo, if_pos he])
  · have hf : f.fifoe = s.fifoe := not_not.1 fun hne => he (.inl hne)
    exact tfnf_of_length_le (writeFcr_params f s) hf (by rw [writeFcr_txFifo, if_neg he]) h

/-- No operation but WR_THR takes the room away. -/
theorem exec_tfnf {i : Instr} {s t : State} (h : exec i s = .next t) (hi : ∀ w, i ≠ .wrThr w)
    (hs : tfnf s = true) : tfnf t = true := by
  have hp := exec_params h
  obtain ⟨-, rfl⟩ := exec_next_iff.1 h
  have hf := effect_fifoe i s
  have htx := effect_txFifo i s
  cases i
  case wrThr w => exact absurd rfl (hi w)
  case wrFcr w => exact writeFcr_tfnf _ hs
  case reset => exact tfnf_of_empty htx
  case txTake => exact tfnf_of_length_le hp hf (by simp [htx]) hs
  all_goals exact tfnf_of_length_le hp hf (by rw [htx]) hs

/-- After a character has arrived the receive FIFO holds a byte, stored or already there, because a
capacity is at least 1 (44_line_events.md R164). -/
theorem storeRx_rxFifo_ne_nil (b : Byte) (s : State) : (storeRx b s).rxFifo ≠ [] := by
  obtain ⟨-, h⟩ | ⟨hfull, -, h⟩ | ⟨-, -, h⟩ := storeRx_cases b s
  · simp [h]
  · rw [h]
    exact List.length_pos_iff.1 ((rxCap_pos s).trans_le hfull)
  · simp [h]

/-- Only RD_RBR, RESET and a WR_FCR that empties the receive FIFO take the data away. -/
theorem exec_dr {i : Instr} {s t : State} (h : exec i s = .next t) (hrbr : i ≠ .rdRbr)
    (hreset : i ≠ .reset)
    (hfcr : ∀ w, i = .wrFcr w → w.getLsbD 0 = s.fifoe ∧ w.getLsbD 1 = false)
    (hs : dr s = true) : dr t = true := by
  obtain ⟨-, rfl⟩ := exec_next_iff.1 h
  rw [dr_iff] at hs ⊢
  rw [effect_rxFifo]
  cases i
  case rdRbr => exact absurd rfl hrbr
  case reset => exact absurd rfl hreset
  case wrFcr w =>
    obtain ⟨henable, hrfifor⟩ := hfcr w rfl
    simpa only [writeFcr_rxFifo, decomposeFcr_fifoe, decomposeFcr_rfifor, henable, hrfifor, ne_eq,
      not_true_eq_false, Bool.false_eq_true, or_self, if_false] using hs
  case rxChar b pe fe bi => exact storeRx_rxFifo_ne_nil _ _
  all_goals exact hs

/-- Settles O50: TFNF by the transmit FIFO, DR by the receive FIFO after each operation. -/
theorem readinessPersists : Obligations.ReadinessPersists :=
  fun _ _ _ h => ⟨exec_tfnf h, exec_dr h⟩

/-! ### The read value as a write operand (20_memory.md R46) -/

@[simp] theorem modemOperand_zext32 (v : BitVec 7) : modemOperand (zext32 v) = v := by
  rw [modemOperand_eq, zext32, BitVec.setWidth_setWidth_of_le _ (by decide), BitVec.setWidth_eq]

@[simp] theorem fracOperand_zext32 (v : BitVec 4) : fracOperand (zext32 v) = v := by
  rw [fracOperand_eq, zext32, BitVec.setWidth_setWidth_of_le _ (by decide), BitVec.setWidth_eq]

/-- With bits 7:4 zero WR_IER refuses nothing and drops nothing (42_fifo_modem_control.md R123). -/
theorem exec_wrIer_writeBack {s : State} (h : s.ier.extractLsb' 4 4 = 0) :
    exec (.wrIer (zext32 s.ier)) s = .next s := by
  have hptime : (decomposeIer s.ier).ptime = false :=
    getLsbD_of_field_zero h (i := 7) (by decide) (by decide)
  have hmask : s.ier &&& 0x0F = s.ier := by
    apply BitVec.eq_of_getLsbD_eq
    intro i hi
    by_cases hlt : i < 4
    · interval_cases i <;> simp
    · simp [getLsbD_of_field_zero h (not_lt.1 hlt) hi]
  exact execWrIer_next.2 (by rw [byteOperand_zext32, hmask]; exact ⟨hptime, rfl⟩)

/-- With bits 6:4 zero WR_MCR refuses nothing (42_fifo_modem_control.md R126). -/
theorem exec_wrMcr_writeBack {s : State} (h : s.mcr.extractLsb' 4 3 = 0) :
    exec (.wrMcr (zext32 s.mcr)) s = .next s := by
  have hbit (i : Nat) (hlo : 4 ≤ i) (hi : i < 7) :
      (byteOperand (zext32 s.mcr)).getLsbD i = false := by
    simp [byteOperand_eq, getLsbD_of_field_zero h hlo hi]
  refine execWrMcr_next.2 ⟨?_, by rw [modemOperand_zext32]⟩
  simp only [decomposeMcr, hbit 4 (by decide) (by decide), hbit 5 (by decide) (by decide),
    hbit 6 (by decide) (by decide), Bool.or_self]

/-- Settles O52: no guard refuses the value read, and the operand taken from it is the register. -/
theorem writeBackChangesNothing : Obligations.WriteBackChangesNothing := by
  rintro s ⟨-, -, hier, hmcr⟩
  have hbyte (put : Byte → State) (v : Byte) : put (byteOperand (zext32 v)) = put v := by
    rw [byteOperand_zext32]
  have hfrac : { s with dlf := fracOperand (zext32 s.dlf) } = s := by rw [fracOperand_zext32]
  refine ⟨exec_wrMcr_writeBack hmcr, exec_wrIer_writeBack hier,
    congrArg _ (hbyte ({ s with scr := · }) s.scr), fun hbusy => ⟨?lcr, ?dll, ?dlh, ?dlf⟩⟩
  case lcr => exact unlessBusy_next.2 ⟨hbusy, hbyte ({ s with lcr := · }) s.lcr⟩
  case dll => exact unlessBusy_next.2 ⟨hbusy, hbyte ({ s with dll := · }) s.dll⟩
  case dlh => exact unlessBusy_next.2 ⟨hbusy, hbyte ({ s with dlh := · }) s.dlh⟩
  case dlf => exact unlessBusy_next.2 ⟨hbusy, hfrac⟩

/-! ### Reads without a side effect (20_memory.md R46) -/

/-- A read that only answers, by a value `f` that does not depend on what has been read before, can
be repeated. -/
theorem repeatable_of_reply {i : Instr} {f : State → Word}
    (hexec : ∀ s, exec i s = .next (reply (f s) s)) (hf : ∀ v s, f (reply v s) = f s) (s : State) :
    ∃ v : Word, exec i s = .next { s with replies := s.replies ++ [v] } ∧
      exec i { s with replies := s.replies ++ [v] } =
        .next { s with replies := s.replies ++ [v, v] } := by
  have htwice : reply (f s) (reply (f s) s) = { s with replies := s.replies ++ [f s, f s] } := by
    simp [reply]
  exact ⟨f s, hexec s, (hexec (reply (f s) s)).trans (by rw [hf, htwice])⟩

/-- Settles O51: each of the thirteen only answers, by a register, a status value, a level or a
parameter of the state. -/
theorem thirteenReadsAreRepeatable : Obligations.ThirteenReadsAreRepeatable := by
  intro i hi s
  fin_cases hi <;> exact repeatable_of_reply (fun _ => rfl) (fun _ _ => rfl) s

end Sys2Proof.Machine
end

section
/-! SUPPORT. The rows of the decode table: each decodes to its operation and no two hit one key; the
reserved offsets; what the window changes; with the settled statements of 30_encoding.md R61, R63 and
R77. -/

namespace Sys2Proof

open Machine Laws

/-! ### Round trip -/

/-- The round trip of each operation, put together. -/
theorem roundTrip : ∀ i, RoundTrip.Statement i
  | .rdRbr => RoundTrip.rdRbr
  | .wrThr w => RoundTrip.wrThr w
  | .rdScr => RoundTrip.rdScr
  | .wrScr w => RoundTrip.wrScr w
  | .rdDll => RoundTrip.rdDll
  | .wrDll w => RoundTrip.wrDll w
  | .rdDlh => RoundTrip.rdDlh
  | .wrDlh w => RoundTrip.wrDlh w
  | .wrLcr w => RoundTrip.wrLcr w
  | .rdLcr => RoundTrip.rdLcr
  | .rdDlf => RoundTrip.rdDlf
  | .wrDlf w => RoundTrip.wrDlf w
  | .rdIer => RoundTrip.rdIer
  | .wrIer w => RoundTrip.wrIer w
  | .rdIir => RoundTrip.rdIir
  | .wrFcr w => RoundTrip.wrFcr w
  | .rdMcr => RoundTrip.rdMcr
  | .wrMcr w => RoundTrip.wrMcr w
  | .rdLsr => RoundTrip.rdLsr
  | .rdUsr => RoundTrip.rdUsr
  | .rdMsr => RoundTrip.rdMsr
  | .rdTfl => RoundTrip.rdTfl
  | .rdRfl => RoundTrip.rdRfl
  | .rdCpr => RoundTrip.rdCpr
  | .rdUcv => RoundTrip.rdUcv
  | .rdCtr => RoundTrip.rdCtr
  | .wrLsr w => RoundTrip.wrLsr w
  | .wrMsr w => RoundTrip.wrMsr w
  | .wrUsr w => RoundTrip.wrUsr w
  | .wrTfl w => RoundTrip.wrTfl w
  | .wrRfl w => RoundTrip.wrRfl w
  | .wrCpr w => RoundTrip.wrCpr w
  | .wrUcv w => RoundTrip.wrUcv w
  | .wrCtr w => RoundTrip.wrCtr w
  | .rsvdRd d o => RoundTrip.rsvdRd d o
  | .rsvdWr d o w => RoundTrip.rsvdWr d o w
  | .txTake => RoundTrip.txTake
  | .txDone => RoundTrip.txDone
  | .rxStart => RoundTrip.rxStart
  | .rxChar b pe fe bi => RoundTrip.rxChar b pe fe bi
  | .modemChange lines => RoundTrip.modemChange lines
  | .reset => RoundTrip.reset

/-- Settles O2. -/
theorem decodeOfEncode : Obligations.DecodeOfEncode := fun i d h => roundTrip i h d

/-! ### A key and the row it hits -/

/-- Two rows differ in a bit that both masks keep (30_encoding.md R63). -/
theorem busTable_differ :
    busTable.Pairwise fun row row' => row.pat &&& row'.mask ≠ row'.pat &&& row.mask := by
  decide

/-- No key is hit by two rows that differ in a bit that both masks keep. -/
theorem BusRow.pat_and_mask_comm {row row' : BusRow} {key : BitVec 10} (h : row.hits key = true)
    (h' : row'.hits key = true) : row.pat &&& row'.mask = row'.pat &&& row.mask := by
  rw [← beq_iff_eq.1 h, ← beq_iff_eq.1 h', BitVec.and_assoc, BitVec.and_assoc,
    BitVec.and_comm row.mask]

/-- At most one row hits a key (30_encoding.md R63). -/
theorem filter_hits_length_le (key : BitVec 10) :
    (busTable.filter (fun row => row.hits key)).length ≤ 1 := by
  have hdiffer := busTable_differ.filter (fun row => row.hits key)
  have hhits := fun row (hm : row ∈ busTable.filter (fun row => row.hits key)) =>
    (List.mem_filter.1 hm).2
  generalize busTable.filter (fun row => row.hits key) = rows at hdiffer hhits ⊢
  match rows with
  | [] | [_] => simp
  | row :: row' :: _ =>
    have hne := (List.pairwise_cons.1 hdiffer).1 row' (by simp)
    exact absurd (BusRow.pat_and_mask_comm (hhits row (by simp)) (hhits row' (by simp))) hne

/-- The row that hits a key is the one the decoder finds. -/
theorem find_eq_of_hits {row : BusRow} {key : BitVec 10} (hm : row ∈ busTable)
    (h : row.hits key = true) : busTable.find? (fun row => row.hits key) = some row := by
  have hmem : row ∈ busTable.filter (fun row => row.hits key) := List.mem_filter.2 ⟨hm, h⟩
  have hlen := filter_hits_length_le key
  rw [← List.head?_filter]
  generalize busTable.filter (fun row => row.hits key) = rows at hmem hlen
  match rows with
  | [_] => rw [List.mem_singleton.1 hmem]; rfl
  | _ :: _ :: _ => simp at hlen

/-- The keys of a row are aligned (30_encoding.md R63). -/
theorem busTable_aligned :
    ∀ row ∈ busTable, ∀ dlab, (keyOffset (row.keyIn dlab)).toNat % 4 = 0 := by
  decide

/-- A key that a row hits decodes to the row's operation (30_encoding.md R63). -/
theorem decodeBus_of_hits {row : BusRow} {key : BitVec 10} (w : Word) (hm : row ∈ busTable)
    (h : row.hits key = true) : decodeBus key w = .ok (row.build w) := by
  have ha : (keyOffset key).toNat % 4 = 0 := by
    rw [BusRow.eq_keyIn_of_hits hm h]
    exact busTable_aligned row hm _
  rw [decodeBus, if_neg (not_not_intro ha), find_eq_of_hits hm h]

/-- An aligned key that no row hits decodes to the fallback (30_encoding.md R63). -/
theorem decodeBus_of_no_row {key : BitVec 10} (w : Word) (ha : (keyOffset key).toNat % 4 = 0)
    (hn : ∀ row ∈ busTable, row.hits key = false) : decodeBus key w = .ok (fallback key w) := by
  have hnone : busTable.find? (fun row => row.hits key) = none :=
    List.find?_eq_none.2 fun row hm => Bool.eq_false_iff.1 (hn row hm)
  rw [decodeBus, if_neg (not_not_intro ha), hnone]

theorem keyOffset_eq (key : BitVec 10) : keyOffset key = key.setWidth 8 :=
  (BitVec.setWidth_eq_extractLsb' (by decide)).symm

/-- Settles O4: the rows one by one from `decodeBus_of_hits`, and the fallback where none hits. -/
theorem decodeFollowsTheTable : Obligations.DecodeFollowsTheTable := by
  refine ⟨fun k w => ?rows, rfl, filter_hits_length_le, fun k w ha hn => ?fallback⟩
  case rows =>
    have hrow : ∀ row ∈ busTable, k &&& row.mask = row.pat → decode (.bus k w) = .ok (row.build w) :=
      fun row hm h => decodeBus_of_hits w hm (beq_iff_eq.2 h)
    simpa only [busTable, List.cons_append, List.nil_append, List.forall_mem_cons,
      List.not_mem_nil, IsEmpty.forall_iff, implies_true, and_true] using hrow
  case fallback =>
    have hmiss (row) (hm : row ∈ busTable) : row.hits k = false := beq_eq_false_iff_ne.2 (hn row hm)
    rw [← keyOffset_eq] at ha ⊢
    exact decodeBus_of_no_row w ha hmiss

/-! ### Reserved offsets -/

/-- Among the aligned offsets the reserved ones are those of R77. -/
theorem reservedOffset_iff (d : Bool) {o : Byte} (h4 : o.toNat % 4 = 0) :
    reservedOffset d o = true ↔
      (0x20 ≤ o.toNat ∧ o.toNat ≤ 0x78) ∨ (0x88 ≤ o.toNat ∧ o.toNat ≤ 0xBC) ∨
        (0xC4 ≤ o.toNat ∧ o.toNat ≤ 0xF0) ∨ (o.toNat = 0xC0 ∧ d = false) := by
  simp [reservedOffset, h4, or_assoc]

/-- The key of a reserved offset decodes to the fallback (30_encoding.md R77). -/
theorem decodeBus_of_reserved {wr d : Bool} {o : Byte} (w : Word) (h : reservedOffset d o = true) :
    decodeBus (keyOf wr d o) w = .ok (fallback (keyOf wr d o) w) := by
  obtain ⟨ha, hnone⟩ := reserved_key_hits_no_row wr d o h
  exact decodeBus_of_no_row w ha fun row hm =>
    Bool.eq_false_iff.2 (List.find?_eq_none.1 hnone row hm)

/-- An offset decodes to the fallback only if it is reserved: what decodes is well formed. -/
theorem decodeBus_eq_fallback_iff {wr d : Bool} {o : Byte} {w : Word} :
    decodeBus (keyOf wr d o) w = .ok (fallback (keyOf wr d o) w) ↔ reservedOffset d o = true := by
  refine ⟨fun h => ?_, decodeBus_of_reserved w⟩
  have hwf := (encodeAt_of_decodeBus h).1
  simpa only [wellFormed_fallback, keyDlab_keyOf, keyOffset_keyOf] using hwf

@[simp] theorem fallback_read (d : Bool) (o : Byte) (w : Word) :
    fallback (keyOf false d o) w = .rsvdRd d o := by
  simp [fallback]

@[simp] theorem fallback_write (d : Bool) (o : Byte) (w : Word) :
    fallback (keyOf true d o) w = .rsvdWr d o w := by
  simp [fallback]

/-- Both fallback operations are refused in every state (30_encoding.md R77). -/
theorem exec_fallback (key : BitVec 10) (w : Word) (s : State) :
    exec (fallback key w) s = .refused .reservedOffset := by
  unfold fallback
  split <;> rfl

/-- Settles O5. -/
theorem reservedOffsetsRefused : Obligations.ReservedOffsetsRefused := by
  refine ⟨fun d o w h4 => ?_, fun d o w s => ⟨rfl, rfl⟩⟩
  rw [← reservedOffset_iff d h4]
  constructor
  · rw [← fallback_read d o w]
    exact decodeBus_eq_fallback_iff.symm
  · rw [← fallback_write d o w]
    exact decodeBus_eq_fallback_iff.symm

/-! ### The window -/

/-- Only rows at the offsets 0x00, 0x04 and 0xC0 look at DLAB (30_encoding.md R61, R63). -/
theorem busTable_window :
    ∀ row ∈ busTable, row.mask = 0x2FF ∨
      row.mask = 0x3FF ∧ (keyOffset row.pat = 0x00 ∨ keyOffset row.pat = 0x04 ∨
        keyOffset row.pat = 0xC0) := by
  decide

/-- The mask 0x2FF drops DLAB. -/
theorem keyOf_and_dropDlab (wr d d' : Bool) (o : Byte) :
    keyOf wr d o &&& 0x2FF = keyOf wr d' o &&& 0x2FF := by
  have hdlab (d : Bool) : ((BitVec.ofBool d).setWidth 10 <<< 8) &&& 0x2FF = 0 := by
    cases d <;> rfl
  simp only [keyOf, BitVec.and_or_distrib_right, hdlab]

/-- Away from the offsets 0x00, 0x04 and 0xC0 a row that hits in one window hits in the other. -/
theorem hits_other_window {row : BusRow} {wr d : Bool} {o : Byte} (hm : row ∈ busTable)
    (h : row.hits (keyOf wr d o) = true) (h0 : o ≠ 0x00) (h4 : o ≠ 0x04) (hc0 : o ≠ 0xC0)
    (d' : Bool) : row.hits (keyOf wr d' o) = true := by
  have hpat : keyOf wr d o &&& row.mask = row.pat := beq_iff_eq.1 h
  obtain hmask | ⟨hmask, hoff⟩ := busTable_window row hm
  · rw [hmask, keyOf_and_dropDlab wr d d' o] at hpat
    exact beq_iff_eq.2 (by rw [hmask, hpat])
  · have hkey : keyOf wr d o = row.pat := by
      rw [hmask] at hpat
      exact BitVec.and_allOnes.symm.trans hpat
    rw [← hkey, keyOffset_keyOf] at hoff
    obtain h | h | h := hoff <;> contradiction

/-- Away from 0xC0 an offset is reserved in both windows or in none (30_encoding.md R77). -/
theorem reservedOffset_window {o : Byte} (hc0 : o ≠ 0xC0) (d d' : Bool) :
    reservedOffset d o = reservedOffset d' o := by
  have hne : (o.toNat == 0xC0) = false := beq_eq_false_iff_ne.2 fun h =>
    hc0 (BitVec.eq_of_toNat_eq h)
  simp only [reservedOffset, hne, Bool.false_and]

/-- Away from the aliased offsets an access has the same effect in both windows: the same row is hit,
or both keys are reserved and both are refused (30_encoding.md R61). -/
theorem decodeBus_other_window {wr d : Bool} {o : Byte} {w : Word} {i : Instr} (h0 : o ≠ 0x00)
    (h4 : o ≠ 0x04) (hc0 : o ≠ 0xC0) (h : decodeBus (keyOf wr d o) w = .ok i) (d' : Bool) :
    ∃ j, decodeBus (keyOf wr d' o) w = .ok j ∧ ∀ s, exec j s = exec i s := by
  obtain ⟨-, ⟨row, hm, hhits, rfl⟩ | ⟨-, rfl⟩⟩ := decodeBus_ok h
  · exact ⟨_, decodeBus_of_hits w hm (hits_other_window hm hhits h0 h4 hc0 d'), fun _ => rfl⟩
  · have hres := (reservedOffset_window hc0 d' d).trans (decodeBus_eq_fallback_iff.1 h)
    exact ⟨_, decodeBus_of_reserved w hres, fun s => by rw [exec_fallback, exec_fallback]⟩

/-- In the normal window an access at 0xC0 is refused, read or write (30_encoding.md R61, R77). -/
theorem serve_dlf_normal {s : State} (hs : dlab s = false) (wr : Bool) (w : Word) :
    serve s (.access wr 0xC0 4 w) = .refused .reservedOffset := by
  have hdec : decode (.bus (keyOf wr (dlab s) (BitVec.ofNat 8 0xC0)) w) = .ok _ :=
    decodeBus_of_reserved w (by rw [hs]; rfl)
  rw [serve_access (by decide) (by decide) hdec, exec_fallback]

/-- Settles O6: the aliased keys run through the decoder, the others by `decodeBus_other_window`. -/
theorem windowMovesOnlyTheAliasedOffsets : Obligations.WindowMovesOnlyTheAliasedOffsets := by
  refine ⟨fun w => ⟨rfl, rfl, rfl, rfl, rfl, rfl, rfl, rfl, rfl, rfl, rfl, rfl, fun s hs => ?dlf,
    fun d => ?iir, fun d => ?fcr⟩, fun wr o w i h0 h4 hc0 h => ?other⟩
  case dlf => exact ⟨serve_dlf_normal hs false w, serve_dlf_normal hs true w⟩
  case iir => cases d <;> rfl
  case fcr => cases d <;> rfl
  case other => exact decodeBus_other_window h0 h4 hc0 h true

end Sys2Proof
end

section
/-! SUPPORT. Event codes and table words as inputs of a step, FIFO levels as read results, and flag
registers taken apart and put together; with the settled statements of 30_encoding.md R80, R81 and
43_status.md R144, R145. -/

namespace Sys2Proof.Machine

open Laws

/-! ### Words and event codes -/

/-- Settles O1: the decoder evaluated on ten closed words. -/
theorem specWordsDecode : Obligations.SpecWordsDecode :=
  ⟨rfl, rfl, rfl, rfl, rfl, rfl, rfl, rfl, rfl, rfl⟩

/-- An event that decodes to nothing is refused. -/
theorem serve_event_error {s : State} {ev : BitVec 3} {o : BitVec 11} {e : DecodeError}
    (h : decode (.event ev o) = .error e) : serve s (.event ev o) = .refused (decodeRefusal e) := by
  simp [serve, nextInstr, encodedInput, h]

/-- Settles O7: codes 0 to 5 by the round trip of the six events; codes 6 and 7 have no arm. -/
theorem eventCodesDecode : Obligations.EventCodesDecode := by
  have h6 (o : BitVec 11) : decode (.event 6 o) = .error .noSuchEvent := rfl
  have h7 (o : BitVec 11) : decode (.event 7 o) = .error .noSuchEvent := rfl
  exact ⟨roundTrip .txTake rfl false, roundTrip .txDone rfl false, roundTrip .rxStart rfl false,
    fun b pe fe bi => roundTrip (.rxChar b pe fe bi) rfl false,
    fun lines => roundTrip (.modemChange lines) rfl false, roundTrip .reset rfl false,
    fun o => ⟨h6 o, h7 o⟩,
    fun s o rest => ⟨(step_cons rfl).trans (serve_event_error (h6 o)),
      (step_cons rfl).trans (serve_event_error (h7 o))⟩⟩

/-! ### A table word as the next input -/

/-- A table word that decodes has a layout (log 8). -/
theorem decodeTableWord_eq_some {nbits w : Nat} {i : Instr} (h : decodeTableWord nbits w = some i) :
    ∃ e, wordLayout nbits w = some e ∧ decode e = .ok i := by
  unfold decodeTableWord at h
  split at h
  · cases h
  · next e he =>
    split at h
    · next j hj => exact ⟨e, he, hj.trans (congrArg _ (Option.some.inj h))⟩
    · cases h

/-- What a table word can be: an event with at most 8 bits, else a bus operation whose DLAB is bit 8
of the word (log 8). -/
theorem wordLayout_cases {nbits w : Nat} {e : Encoded} (h : wordLayout nbits w = some e) :
    (nbits ≤ 8 ∧ ∃ ev o, e = .event ev o) ∨
      (¬ nbits ≤ 8 ∧ ∃ key wdata, e = .bus key wdata ∧ keyDlab key = w.testBit 8) := by
  unfold wordLayout at h
  split at h
  · next hn =>
    split at h
    · exact .inl ⟨hn, _, _, (Option.some.inj h).symm⟩
    · cases h
  · next hn =>
    split at h
    · exact .inr ⟨hn, _, _, (Option.some.inj h).symm, BitVec.getLsbD_ofNat 10 w 8⟩
    · cases h

/-- The line control that a placed bus word leaves: bits 6:0 as they are, DLAB as in its key. -/
def lcrWithDlab (s : State) (d : Bool) : Byte := (s.lcr &&& 0x7F) ||| flagAt 7 d

theorem lcrWithDlab_getLsbD (s : State) (d : Bool) : (lcrWithDlab s d).getLsbD 7 = d := by
  simp [lcrWithDlab]

/-- An event word runs its operation in the state itself. -/
theorem step_withFetchWord_event {s : State} {nbits w : Nat} {ev : BitVec 3} {o : BitVec 11}
    {i : Instr} (hw : wordLayout nbits w = some (.event ev o)) (hd : decode (.event ev o) = .ok i) :
    step (s.withFetchWord nbits w) = exec i s := by
  have hplace : s.withFetchWord nbits w = { s with inbox := .event ev o :: s.inbox } := by
    rw [State.withFetchWord, placeWord, hw]
  rw [hplace, step_cons rfl, serve_event hd]

/-- A bus word runs its operation in the state with DLAB as its key has it. -/
theorem step_withFetchWord_bus {s : State} {nbits w : Nat} {key : BitVec 10} {wdata : Word}
    {i : Instr} (hw : wordLayout nbits w = some (.bus key wdata))
    (hd : decode (.bus key wdata) = .ok i) :
    step (s.withFetchWord nbits w) = exec i { s with lcr := lcrWithDlab s (keyDlab key) } := by
  have hplace : s.withFetchWord nbits w =
      { s with
        lcr := lcrWithDlab s (keyDlab key)
        inbox := .access (keyWr key) (keyOffset key).toNat 4 wdata :: s.inbox } := by
    rw [State.withFetchWord, placeWord, hw]
    rfl
  obtain ⟨h4, -⟩ := decodeBus_ok hd
  rw [hplace, step_cons rfl, serve_access h4 (keyOffset key).isLt]
  rw [dlab, lcrWithDlab_getLsbD, BitVec.ofNat_toNat, BitVec.setWidth_eq, keyOf_fields, hd]

/-- Settles O10: a table word is an event or a bus operation, by its number of bits. -/
theorem fetchWordRunsTheTableWord : Obligations.FetchWordRunsTheTableWord := by
  intro s nbits w i h
  obtain ⟨e, hw, hd⟩ := decodeTableWord_eq_some h
  obtain ⟨hn, ev, o, rfl⟩ | ⟨hn, key, wdata, rfl, hdlab⟩ := wordLayout_cases hw
  · rw [if_pos hn, step_withFetchWord_event hw hd]
  · have hflag : flagAt 7 (w.testBit 8) = if w.testBit 8 then 0x80 else 0x00 := by
      cases w.testBit 8 <;> rfl
    rw [if_neg hn, step_withFetchWord_bus hw hd, hdlab, lcrWithDlab, hflag]

/-! ### FIFO levels (43_status.md R144, R145) -/

/-- A level below 2^32 is answered as it is (log 5). -/
theorem levelWord_toNat {n : Nat} (h : n < 2 ^ 32) : (levelWord n).toNat = n :=
  Nat.mod_eq_of_lt h

/-- Settles O27: each of the two reads answers its level. -/
theorem readFifoLevels : Obligations.ReadFifoLevels := fun s _ =>
  ⟨rfl, rfl, rfl, rfl, ⟨levelWord (txLevel s), rfl, levelWord_toNat⟩,
    ⟨levelWord (rxLevel s), rfl, levelWord_toNat⟩⟩

/-! ### Flag registers (30_encoding.md R81) -/

/-- A flag taken from its bit and put back is that bit of the register. -/
theorem flagAt_getLsbD_eq_and (v : Byte) (i : Nat) :
    flagAt i (v.getLsbD i) = v &&& flagAt i true := by
  apply BitVec.eq_of_getLsbD_eq
  intro j hj
  by_cases h : j = i
  · subst h
    simp [hj]
  · simp [h]

/-- A field taken from its bits and put back is those bits of the register. -/
theorem placeAt_extractLsb'_eq_and (v : Byte) (lo len : Nat) :
    placeAt lo (v.extractLsb' lo len) = v &&& placeAt lo (BitVec.allOnes len) := by
  apply BitVec.eq_of_getLsbD_eq
  intro j hj
  rw [BitVec.getLsbD_and, placeAt_getLsbD, placeAt_getLsbD]
  by_cases hlo : lo ≤ j
  · simp [hj, hlo, Bool.and_comm]
  · simp [hlo]

/-- Settles O32: each field keeps its own bits, so all of them keep the union of their masks. -/
theorem flagsRecompose : Obligations.FlagsRecompose := by
  intro reg v
  cases reg <;>
    simp only [recompose, composeIer, decomposeIer, composeLcr, decomposeLcr, composeMcr,
      decomposeMcr, composeLsr, decomposeLsr, composeMsr, decomposeMsr, composeUsr, decomposeUsr,
      composeFcr, decomposeFcr, flagAt_getLsbD_eq_and, placeAt_extractLsb'_eq_and,
      ← BitVec.and_or_distrib_left] <;>
    rfl

end Sys2Proof.Machine
end

section
/-! SUPPORT. The data path: the transmit path and the receive FIFO under each operation and along a
run, and the reads and writes of its registers; with the settled statements of 40_data_path.md. -/

namespace Sys2Proof.Machine

/-! ### The transmit path under one operation (40_data_path.md R94 a) -/

/-- Only TX_TAKE, TX_DONE and RESET change the shift stage (10_state.md R20). -/
theorem effect_txShift (i : Instr) (s : State) :
    (effect i s).txShift =
      match i with
      | .txTake => s.txFifo.head?
      | .txDone | .reset => none
      | _ => s.txShift := by
  cases i
  case rdRbr => cases h : s.rxFifo <;> simp [effect, h]
  case wrThr | wrFcr | rxChar => simp [effect]
  all_goals rfl

/-- The path is the log, the shift stage and the FIFO, whatever else of the state differs. -/
theorem txPath_congr {s t : State} (hlog : t.txLog = s.txLog) (hshift : t.txShift = s.txShift)
    (hfifo : t.txFifo = s.txFifo) : txPath t = txPath s := by
  simp only [txPath, hlog, hshift, hfifo]

/-- A byte joins the path at the back when the transmit FIFO has room (40_data_path.md R91). -/
theorem txPath_pushTx (b : Byte) (s : State) :
    txPath (pushTx b s) = txPath s ++ if s.txFifo.length < txCap s then [b] else [] := by
  obtain ⟨hroom, h⟩ | ⟨hfull, h⟩ := pushTx_cases b s
  · simp [h, hroom, txPath]
  · simp [h, hfull.not_gt]

/-- The head of the FIFO moves into the empty shift stage, next to where it stood
(44_line_events.md R161). -/
theorem txPath_takeTx {s : State} (h : txTakeEnabled s = true) : txPath (takeTx s) = txPath s := by
  obtain ⟨hfifo, hshift⟩ : 0 < s.txFifo.length ∧ s.txShift = none := by
    simpa [txTakeEnabled, Option.isNone_iff_eq_none] using h
  have hhead : s.txFifo.head?.toList ++ s.txFifo.tail = s.txFifo := by
    cases s.txFifo <;> rfl
  calc
    txPath (takeTx s) = s.txLog.map Prod.fst ++ (s.txFifo.head?.toList ++ s.txFifo.tail) := by
      simp [txPath]
    _ = txPath s := by simp [txPath, hhead, hshift]

/-- The byte of the shift stage goes to the end of the log (44_line_events.md R162). -/
theorem txPath_finishTx (s : State) : txPath (finishTx s) = txPath s := by
  have hsent : (s.txShift.toList.map fun b => (b, s.lcr.getLsbD 6)).map Prod.fst =
      s.txShift.toList := by
    simp [Function.comp_def]
  simp only [txPath, finishTx_txLog, finishTx_txShift, finishTx_txFifo, List.map_append, hsent,
    Option.toList_none, List.append_nil]

/-- The transmit reset bit of a WR_FCR is bit 2 of its word (30_encoding.md R71). -/
@[simp] theorem decomposeFcr_xfifor (w : Word) :
    (decomposeFcr (byteOperand w)).xfifor = w.getLsbD 2 := by
  simp [decomposeFcr, byteOperand]

/-- A WR_FCR that keeps the enable and does not reset the transmit FIFO keeps its bytes
(42_fifo_modem_control.md R122). -/
theorem writeFcr_txFifo_of_keepsTx {w : Word} {s : State} (h : keepsTx (.wrFcr w) s = true) :
    (writeFcr (decomposeFcr (byteOperand w)) s).txFifo = s.txFifo := by
  obtain ⟨henable, hxfifor⟩ : w.getLsbD 0 = s.fifoe ∧ w.getLsbD 2 = false := by
    simpa only [keepsTx, Bool.and_eq_true, beq_iff_eq, Bool.not_eq_true'] using h
  simp only [writeFcr_txFifo, decomposeFcr_fifoe, decomposeFcr_xfifor, henable, hxfifor, ne_eq,
    not_true_eq_false, Bool.false_eq_true, or_self, if_false]

/-- One operation that discards nothing leaves the path followed by the byte it accepts. -/
theorem exec_txPath {i : Instr} {s t : State} (h : exec i s = .next t)
    (hkeep : keepsTx i s = true) : txPath t = txPath s ++ accepted i s := by
  obtain ⟨hanswers, rfl⟩ := exec_next_iff.1 h
  have hlog := effect_txLog i s
  have hshift := effect_txShift i s
  have hfifo := effect_txFifo i s
  cases i
  case wrThr w => exact txPath_pushTx (byteOperand w) s
  case reset => cases hkeep
  all_goals refine Eq.trans ?_ (List.append_nil _).symm
  case txTake => exact txPath_takeTx hanswers
  case txDone => exact txPath_finishTx s
  case wrFcr => exact txPath_congr hlog hshift (hfifo.trans (writeFcr_txFifo_of_keepsTx hkeep))
  all_goals exact txPath_congr hlog hshift hfifo

/-! ### A run, one operation at a time -/

/-- A run that answers a next state runs its first operation and goes on from there. -/
theorem runOps_cons_next {i : Instr} {rest : List Instr} {s t : State} :
    runOps (i :: rest) s = .next t ↔ ∃ u, exec i s = .next u ∧ runOps rest u = .next t := by
  rw [runOps]
  cases exec i s <;> simp

theorem acceptedAll_cons {i : Instr} {s u : State} (rest : List Instr) (h : exec i s = .next u) :
    acceptedAll (i :: rest) s = accepted i s ++ acceptedAll rest u := by
  rw [acceptedAll, h]

theorem keepsTxAll_cons {i : Instr} {s u : State} (rest : List Instr) (h : exec i s = .next u) :
    keepsTxAll (i :: rest) s = (keepsTx i s && keepsTxAll rest u) := by
  rw [keepsTxAll, h]

/-- Settles O48, by induction on the operations from any start state. -/
theorem transmitPathKeepsOrder : Obligations.TransmitPathKeepsOrder := by
  intro ops
  induction ops with
  | nil =>
    intro s t hrun _
    obtain rfl := Host.Outcome.next.inj hrun
    exact (List.append_nil _).symm
  | cons i rest ih =>
    intro s t hrun hkeep
    obtain ⟨u, hexec, hrest⟩ := runOps_cons_next.1 hrun
    rw [keepsTxAll_cons rest hexec, Bool.and_eq_true] at hkeep
    obtain ⟨hfirst, hothers⟩ := hkeep
    calc
      txPath t = txPath u ++ acceptedAll rest u := ih u t hrest hothers
      _ = txPath s ++ (accepted i s ++ acceptedAll rest u) := by
        rw [exec_txPath hexec hfirst, List.append_assoc]
      _ = txPath s ++ acceptedAll (i :: rest) s := by rw [acceptedAll_cons rest hexec]

/-! ### The receive FIFO under one operation (40_data_path.md R94 b, c) -/

/-- A character that does not overwrite the buffer register joins the FIFO at the back when there is
room, and is lost otherwise (44_line_events.md R164). -/
theorem storeRx_rxFifo {b : Byte} {s : State}
    (h : s.fifoe = true ∨ s.rxFifo.length < rxCap s) :
    (storeRx b s).rxFifo = s.rxFifo ++ if s.rxFifo.length < rxCap s then [b] else [] := by
  obtain ⟨hroom, hs⟩ | ⟨hfull, -, hs⟩ | ⟨hfull, hoff, -⟩ := storeRx_cases b s
  · simp [hs, hroom]
  · simp [hs, hfull.not_gt]
  · simp [hoff, hfull.not_gt] at h

/-- A WR_FCR that keeps the enable and does not reset the receive FIFO keeps its bytes
(42_fifo_modem_control.md R122). -/
theorem writeFcr_rxFifo_of_keepsRx {w : Word} {s : State} (h : keepsRx (.wrFcr w) s = true) :
    (writeFcr (decomposeFcr (byteOperand w)) s).rxFifo = s.rxFifo := by
  obtain ⟨henable, hrfifor⟩ : w.getLsbD 0 = s.fifoe ∧ w.getLsbD 1 = false := by
    simpa only [keepsRx, Bool.and_eq_true, beq_iff_eq, Bool.not_eq_true'] using h
  simp only [writeFcr_rxFifo, decomposeFcr_fifoe, decomposeFcr_rfifor, henable, hrfifor, ne_eq,
    not_true_eq_false, Bool.false_eq_true, or_self, if_false]

/-- One operation that discards nothing takes at the front and adds at the back. -/
theorem exec_rxFifo {i : Instr} {s t : State} (h : exec i s = .next t)
    (hkeep : keepsRx i s = true) : taken i s ++ t.rxFifo = s.rxFifo ++ arrived i s := by
  obtain ⟨-, rfl⟩ := exec_next_iff.1 h
  rw [effect_rxFifo]
  cases i
  case rdRbr => simp [taken, arrived, ← List.drop_one]
  case rxChar b pe fe bi =>
    have hroom : s.fifoe = true ∨ s.rxFifo.length < rxCap s := by simpa [keepsRx] using hkeep
    exact storeRx_rxFifo (s := latchErrors pe fe bi (setRxActive false s)) hroom
  case reset => cases hkeep
  case wrFcr w => exact (writeFcr_rxFifo_of_keepsRx hkeep).trans (List.append_nil _).symm
  all_goals exact (List.append_nil _).symm

/-- RD_RBR with a byte to read (40_data_path.md R90). -/
theorem exec_rdRbr_cons {s : State} {b : Byte} {rest : List Byte} (h : s.rxFifo = b :: rest) :
    exec .rdRbr s = .next { s with rxFifo := rest, replies := s.replies ++ [b.setWidth 32] } := by
  simp [exec, execRdRbr, h, popRx, reply, zext32]

/-- RD_RBR with none: any byte, and only a free value is used up (40_data_path.md R90). -/
theorem exec_rdRbr_nil {s : State} (h : s.rxFifo = []) :
    exec .rdRbr s =
      .next { s with replies := s.replies ++ [(drawn 8 s).setWidth 32], draws := s.draws + 1 } := by
  simp [exec, execRdRbr, h, useDraw, reply, zext32]

/-- Settles O49: the FIFO as a queue, and the answer of RD_RBR by its head. -/
theorem receivePathKeepsOrder : Obligations.ReceivePathKeepsOrder := by
  intro i s t h hkeep
  refine ⟨exec_rxFifo h hkeep, ?_⟩
  rintro rfl hne
  obtain ⟨b, rest, hfifo⟩ := List.exists_cons_of_ne_nil hne
  obtain rfl := Host.Outcome.next.inj ((exec_rdRbr_cons hfifo).symm.trans h)
  simp [taken, hfifo]

/-! ### The registers of the data path -/

/-- Settles O11: each key hits the row of its read, or none with DLAB = 0 at 0xC0, and each read
only answers its field. -/
theorem plainReadsAnswerTheRegister : Obligations.PlainReadsAnswerTheRegister :=
  fun _ _ => ⟨⟨rfl, rfl, rfl⟩, ⟨rfl, rfl, rfl⟩, ⟨rfl, rfl, rfl⟩, ⟨rfl, rfl, rfl⟩,
    ⟨rfl, rfl, rfl, rfl⟩, ⟨rfl, rfl⟩, ⟨rfl, rfl, rfl⟩⟩

/-- Settles O12: the two cases of RD_RBR by the receive FIFO; with a byte fewer than the capacity
the FIFO is not full. -/
theorem readReceiveBuffer : Obligations.ReadReceiveBuffer := by
  refine ⟨fun w => ⟨rfl, rfl⟩, fun s => ?_⟩
  split
  case h_1 b rest hfifo =>
    have hlevel : rxLevel s = rest.length + 1 := by rw [rxLevel, hfifo, List.length_cons]
    refine ⟨_, exec_rdRbr_cons hfifo, rfl, hlevel.symm, dr_iff _, rfne_iff _, fun hcap => ?_⟩
    have hroom : rest.length < rxCap s := by omega
    exact decide_eq_false hroom.ne
  case h_2 hfifo => exact ⟨drawn 8 s, exec_rdRbr_nil hfifo⟩

/-- With a byte in the transmit FIFO the transmitter is not empty and the block is busy
(10_state.md R25, R26). -/
theorem flags_of_txFifo_ne_nil {s : State} (h : s.txFifo ≠ []) :
    thre s = false ∧ temt s = false ∧ tfe s = false ∧ busy s = true := by
  have hpos : 0 < s.txFifo.length := List.length_pos_iff.2 h
  have hempty : decide (s.txFifo.length = 0) = false := decide_eq_false hpos.ne'
  exact ⟨hempty, by simp [temt, h], hempty, by simp [busy, hpos]⟩

/-- WR_THR with room for the byte (40_data_path.md R91). -/
theorem exec_wrThr_room {s : State} (w : Word) (h : s.txFifo.length < txCap s) :
    exec (.wrThr w) s = .next { s with txFifo := s.txFifo ++ [w.setWidth 8] } := by
  rw [← byteOperand_eq]
  exact congrArg _ (if_pos h)

/-- WR_THR with no room: the byte is lost (40_data_path.md R91). -/
theorem exec_wrThr_full {s : State} (w : Word) (h : ¬ s.txFifo.length < txCap s) :
    exec (.wrThr w) s = .next s :=
  congrArg _ (if_neg h)

/-- Settles O13: with room the FIFO afterwards holds the byte at its back, so it is not empty, and
it is full exactly when its level has come up to the capacity. -/
theorem writeTransmitHolding : Obligations.WriteTransmitHolding := by
  refine ⟨fun w => ⟨rfl, rfl⟩, fun s w => ?_⟩
  change if s.txFifo.length < txCap s then _ else _
  split
  case isTrue hroom =>
    obtain ⟨hthre, htemt, htfe, hbusy⟩ :=
      flags_of_txFifo_ne_nil (s := { s with txFifo := s.txFifo ++ [w.setWidth 8] })
        (List.append_ne_nil_of_right_ne_nil _ (List.cons_ne_nil _ _))
    have hlevel : txLevel { s with txFifo := s.txFifo ++ [w.setWidth 8] } = txLevel s + 1 :=
      List.length_append
    refine ⟨_, exec_wrThr_room w hroom, rfl, hthre, htemt, htfe, hbusy, hlevel, ?_⟩
    have hle : txLevel s + 1 ≤ txCap s := hroom
    rw [← Bool.not_eq_true, tfnf_iff]
    change ¬ txLevel _ < txCap s ↔ _
    omega
  case isFalse hfull => exact exec_wrThr_full w hfull

/-- Settles O14: in either window the key hits the row of WR_SCR, and its operand is the low
byte. -/
theorem writeScratch : Obligations.WriteScratch := by
  intro s w
  refine ⟨rfl, rfl, ?_⟩
  rw [← byteOperand_eq]
  rfl

end Sys2Proof.Machine
end

section
/-! SUPPORT. Divisor and line configuration: the four configuration writes under the busy guard, which
refusal each operation can raise, the configuration outputs under each operation, and the arithmetic
of CONFIGURE; with the settled statements of 41_divisor_config.md. -/

namespace Sys2Proof.Machine

/-! ### Refusals (60_exceptions.md R202) -/

/-- The one refusal that an operation can raise (41_divisor_config.md R108, 42_fifo_modem_control.md
R123 and R126, 30_encoding.md R77). -/
def refusalOf : Instr → Option Refusal
  | .wrDll _ | .wrDlh _ | .wrLcr _ | .wrDlf _ => some .busyWrite
  | .wrIer _ => some .ptimeUnmodelled
  | .wrMcr _ => some .modemModeUnmodelled
  | .rsvdRd _ _ | .rsvdWr _ _ _ => some .reservedOffset
  | _ => none

/-- A write refused on the condition `c` is refused where `c` holds, and for no other reason. -/
theorem refusedIf_refused {c : Bool} {q r : Refusal} {n : State} :
    ((if c then .refused q else .next n : Host.Outcome State Fault Refusal) = .refused r) ↔
      c = true ∧ q = r := by
  cases c <;> simp

/-- An operation is refused where its guard fails, and with its own refusal. -/
theorem exec_refused_iff {i : Instr} {s : State} {r : Refusal} :
    exec i s = .refused r ↔ answers i s = false ∧ refusalOf i = some r := by
  cases i
  case rdRbr => cases h : s.rxFifo <;> simp [exec, execRdRbr, refusalOf, h]
  case wrDll | wrDlh | wrLcr | wrDlf =>
    exact unlessBusy_refused.trans
      (by simp only [answers, refusalOf, Bool.not_eq_false', Option.some.injEq])
  case wrIer | wrMcr =>
    exact refusedIf_refused.trans
      (by simp only [answers, refusalOf, Bool.not_eq_false', Option.some.injEq])
  case rsvdRd | rsvdWr => simp [exec, execRsvdRd, execRsvdWr, answers, refusalOf]
  case txTake | txDone | rxStart | rxChar =>
    exact iff_of_false whenEnabled_ne_refused (fun ⟨_, h⟩ => nomatch h)
  all_goals exact iff_of_false nofun (fun ⟨_, h⟩ => nomatch h)

/-- The refusal busy_write belongs to the four configuration writes (41_divisor_config.md R108). -/
theorem refusalOf_eq_busyWrite_iff {i : Instr} :
    refusalOf i = some .busyWrite ↔
      ∃ w, i = .wrLcr w ∨ i = .wrDll w ∨ i = .wrDlh w ∨ i = .wrDlf w := by
  cases i <;> simp [refusalOf]

/-- Settles O16: among the operations that can raise busy_write the guard is BUSY. -/
theorem busyGuardIsForConfigurationWrites : Obligations.BusyGuardIsForConfigurationWrites := by
  intro i s
  rw [exec_refused_iff, refusalOf_eq_busyWrite_iff]
  refine and_congr_left ?_
  rintro ⟨w, rfl | rfl | rfl | rfl⟩ <;> simp [answers]

/-! ### The four configuration writes (41_divisor_config.md R101, R103, R104, R107) -/

/-- Settles O15: the keys by the decoder, the writes by the two cases of the busy guard. -/
theorem configurationWrites : Obligations.ConfigurationWrites := by
  refine ⟨fun w => ⟨rfl, rfl, rfl, rfl, rfl, rfl, fun s => rfl⟩, fun s w => ?_⟩
  rw [← byteOperand_eq, ← fracOperand_eq]
  split
  case isTrue hbusy =>
    have hguard (n : State) : unlessBusy s n = .refused .busyWrite :=
      unlessBusy_refused.2 ⟨hbusy, rfl⟩
    exact ⟨hguard _, hguard _, hguard _, hguard _⟩
  case isFalse hidle =>
    have hguard (n : State) : unlessBusy s n = .next n :=
      unlessBusy_next.2 ⟨Bool.eq_false_iff.2 hidle, rfl⟩
    refine ⟨hguard _, hguard _, hguard _, ?_, hguard _⟩
    simp [lineMode_eq, byteOperand]

/-! ### The configuration outputs (41_divisor_config.md R111, R112) -/

/-- The high byte counts 256 (41_divisor_config.md R111 a). -/
theorem divisorInt_toNat (s : State) :
    (divisorInt s).toNat = 256 * s.dlh.toNat + s.dll.toNat := by
  rw [divisorInt, BitVec.toNat_append, ← Nat.shiftLeft_add_eq_or_of_lt s.dll.isLt,
    Nat.shiftLeft_eq, Nat.mul_comm]

/-- The low bits of `wdata[7:0]` are those of the word (30_encoding.md R76 a). -/
theorem byteOperand_low (w : Word) : (byteOperand w).extractLsb' 0 7 = w.setWidth 7 := by
  apply BitVec.eq_of_getLsbD_eq
  intro i hi
  simp [byteOperand]

/-- The low bits of `wdata[6:0]` are those of the word (30_encoding.md R76 a). -/
theorem modemOperand_low (w : Word) : (modemOperand w).extractLsb' 0 4 = w.setWidth 4 := by
  apply BitVec.eq_of_getLsbD_eq
  intro i hi
  simp [modemOperand]

/-- Each output is changed by the write of its own register and by RESET, and by nothing else. -/
theorem effect_outputs (i : Instr) (s : State) :
    outputs (effect i s) =
      match i with
      | .wrDll w => { outputs s with divisorInt := s.dlh ++ byteOperand w }
      | .wrDlh w => { outputs s with divisorInt := byteOperand w ++ s.dll }
      | .wrDlf w => { outputs s with divisorFrac := fracOperand w }
      | .wrLcr w => { outputs s with frame := (byteOperand w).extractLsb' 0 7 }
      | .wrFcr w => { outputs s with fifoEnable := (decomposeFcr (byteOperand w)).fifoe }
      | .wrMcr w => { outputs s with modem := (modemOperand w).extractLsb' 0 4 }
      | .reset => ⟨0, 0, 0, false, 0⟩
      | _ => outputs s := by
  cases i
  case rdRbr => cases h : s.rxFifo <;> simp [effect, outputs, divisorInt, h]
  case wrThr | wrFcr | rxChar | reset => simp [effect, outputs, divisorInt]
  all_goals rfl

/-- Settles O17: the outputs are the stored fields, and follow each effect on them. -/
theorem outputsFollowTheConfiguration : Obligations.OutputsFollowTheConfiguration := by
  refine ⟨fun s => ⟨divisorInt_toNat s, rfl, ?frame, rfl, ?modem⟩, fun i s t h => ?step⟩
  case frame => exact (BitVec.setWidth_eq_extractLsb' (by decide)).symm
  case modem => exact (BitVec.setWidth_eq_extractLsb' (by decide)).symm
  case step =>
    obtain ⟨-, rfl⟩ := exec_next_iff.1 h
    rw [effect_outputs]
    cases i
    case wrDll w | wrDlh w => simp only [byteOperand_eq]
    case wrDlf w => simp only [fracOperand_eq]
    case wrLcr w => simp only [byteOperand_low]
    case wrFcr w => simp only [decomposeFcr_fifoe]
    case wrMcr w => simp only [modemOperand_low]
    all_goals rfl

/-! ### The arithmetic of CONFIGURE (41_divisor_config.md R111 c, R113 c) -/

/-- The divisor counts whole sixteens of `clock / baud`. -/
theorem divisorFor_eq (baud clock : Word) :
    divisorFor baud clock = clock.toNat / baud.toNat / 16 := by
  rw [divisorFor, Nat.mul_comm, Nat.div_div_eq_div_mul]

/-- The fraction is what of `clock / baud` is left over from the sixteens. -/
theorem fracFor_eq (baud clock : Word) :
    fracFor baud clock = clock.toNat / baud.toNat % 16 := by
  rw [fracFor, Nat.mul_comm, Nat.mod_mul_right_div_self]

/-- Settles O19: divisor and fraction are quotient and remainder of `clock / baud` by 16. -/
theorem divisorArithmeticFits : Obligations.DivisorArithmeticFits := by
  intro baud clock hbaud hclock
  have hpos : 0 < 16 * baud.toNat := by omega
  refine ⟨Nat.div_pos hclock hpos, ?frac, ?sixteenths, ?fits⟩
  case frac =>
    rw [fracFor_eq]
    exact Nat.le_of_lt_succ (Nat.mod_lt _ (by decide))
  case sixteenths => rw [divisorFor_eq, fracFor_eq, Nat.div_add_mod]
  case fits => rw [divisorFor, Nat.div_lt_iff_lt_mul hpos, Nat.mul_assoc]

end Sys2Proof.Machine
end

section
/-! SUPPORT. The control registers: WR_FCR as one update of the state with the flags of an emptied
FIFO, and the bits that WR_IER and WR_MCR refuse and store; with the settled statements of
42_fifo_modem_control.md. -/

namespace Sys2Proof.Machine

/-! ### FIFO Control (42_fifo_modem_control.md R122) -/

/-- The fields of a WR_FCR are those of its word (30_encoding.md R71). -/
theorem decomposeFcr_byteOperand (w : Word) :
    decomposeFcr (byteOperand w) =
      ⟨w.getLsbD 0, w.getLsbD 1, w.getLsbD 2, w.getLsbD 3, w.extractLsb' 4 2, w.extractLsb' 6 2⟩ := by
  simp [decomposeFcr, byteOperand, BitVec.extractLsb'_extractLsb'_of_le]

/-- The writes of R122 in one update: whichever of them run, only the FIFOs and the four stored
fields change. -/
theorem writeFcr_eq (f : FcrFields) (s : State) :
    writeFcr f s = { s with
      txFifo := if f.fifoe ≠ s.fifoe ∨ f.xfifor = true then [] else s.txFifo
      rxFifo := if f.fifoe ≠ s.fifoe ∨ f.rfifor = true then [] else s.rxFifo
      fifoe := f.fifoe
      dmam := f.dmam
      tet := f.tet
      rt := f.rt } := by
  rw [← writeFcr_txFifo, ← writeFcr_rxFifo]
  simp only [writeFcr]
  split <;> split <;> split <;> rfl

/-- With the transmit FIFO empty the transmitter is ready, and it has drained as far as the shift
stage has (10_state.md R25, R26). -/
theorem flags_of_txFifo_eq_nil {s : State} (h : s.txFifo = []) :
    thre s = true ∧ tfe s = true ∧ tfnf s = true ∧ txLevel s = 0 ∧
      (temt s = true ↔ s.txShift = none) :=
  ⟨(thre_iff s).2 h, (tfe_iff s).2 h, tfnf_of_empty h, List.length_eq_zero_iff.2 h,
    (temt_iff s).trans (and_iff_right h)⟩

/-- With the receive FIFO empty there is no data; it is not full, because a capacity is at least 1
(10_state.md R24, R26). -/
theorem flags_of_rxFifo_eq_nil {s : State} (h : s.rxFifo = []) :
    dr s = false ∧ rfne s = false ∧ rff s = false ∧ rxLevel s = 0 := by
  have hlevel : s.rxFifo.length = 0 := List.length_eq_zero_iff.2 h
  have hnone : decide (0 < s.rxFifo.length) = false := decide_eq_false hlevel.not_gt
  have hroom : s.rxFifo.length < rxCap s := hlevel ▸ rxCap_pos s
  exact ⟨hnone, hnone, decide_eq_false hroom.ne, hlevel⟩

/-- Settles O20: the write is one update of the state, and a FIFO that it empties has the flags of
an empty one. -/
theorem writeFifoControl : Obligations.WriteFifoControl := by
  intro s w
  have hexec : exec (.wrFcr w) s = .next (writeFcr (decomposeFcr (byteOperand w)) s) := rfl
  rw [writeFcr_eq, decomposeFcr_byteOperand] at hexec
  exact ⟨rfl, rfl, _, hexec, rfl, fun htx => flags_of_txFifo_eq_nil (if_pos htx),
    fun hrx => flags_of_rxFifo_eq_nil (if_pos hrx)⟩

/-! ### Interrupt enable and identification (42_fifo_modem_control.md R121, R123) -/

/-- The bit that WR_IER refuses is bit 7 of its word. -/
theorem decomposeIer_ptime (w : Word) : (decomposeIer (byteOperand w)).ptime = w.getLsbD 7 := by
  simp [decomposeIer, byteOperand]

/-- The mask of WR_IER keeps the low four bits of its word. -/
theorem byteOperand_and_low (w : Word) :
    byteOperand w &&& 0x0F = (w.extractLsb' 0 4).setWidth 8 := by
  apply BitVec.eq_of_getLsbD_eq
  intro i hi
  interval_cases i <;> simp [byteOperand]

/-- Settles O21: the two cases of the guard on bit 7. -/
theorem writeInterruptEnable : Obligations.WriteInterruptEnable := by
  intro s w
  refine ⟨rfl, ?_⟩
  rw [← decomposeIer_ptime, ← byteOperand_and_low]
  split
  case isTrue hptime => exact refusedIf_refused.2 ⟨hptime, rfl⟩
  case isFalse hptime => exact execWrIer_next.2 ⟨Bool.eq_false_iff.2 hptime, rfl⟩

/-- Settles O22: the byte answered is the next free value. -/
theorem readInterruptIdentification : Obligations.ReadInterruptIdentification :=
  fun s _ => ⟨rfl, rfl, drawn 8 s, rfl⟩

/-! ### Modem Control (42_fifo_modem_control.md R126) -/

/-- The bits that WR_MCR refuses are bits 4, 5 and 6 of its word. -/
theorem decomposeMcr_modes (w : Word) :
    ((decomposeMcr (byteOperand w)).lb || (decomposeMcr (byteOperand w)).afce ||
      (decomposeMcr (byteOperand w)).sire) = true ↔
      w.getLsbD 4 ∨ w.getLsbD 5 ∨ w.getLsbD 6 := by
  simp [decomposeMcr, byteOperand, or_assoc]

/-- Settles O23: the two cases of the guard on the three mode bits. -/
theorem writeModemControl : Obligations.WriteModemControl := by
  intro s w
  refine ⟨rfl, rfl, ?_⟩
  rw [← modemOperand_eq]
  split
  case isTrue hmode => exact refusedIf_refused.2 ⟨(decomposeMcr_modes w).2 hmode, rfl⟩
  case isFalse hmode =>
    exact execWrMcr_next.2 ⟨Bool.eq_false_iff.2 (hmode ∘ (decomposeMcr_modes w).1), rfl⟩

end Sys2Proof.Machine
end

section
/-! SUPPORT. The status reads: what RD_LSR, RD_USR and RD_MSR answer in terms of the stored fields;
with the settled statements of 43_status.md. -/

namespace Sys2Proof.Machine

/-! ### Line Status (43_status.md R140, R141) -/

/-- Settles O24: the value is sampled with the next free bit as bit 7, and its other bits are the
flags and latches of the state before. -/
theorem readLineStatus : Obligations.ReadLineStatus := by
  intro s w
  refine ⟨rfl, rfl, lsrValue s ((drawn 1 s).getLsbD 0), rfl, ?_⟩
  obtain ⟨hdr, hoe, hpe, hfe, hbi, hthre, htemt, -⟩ := lsrValue_bits s ((drawn 1 s).getLsbD 0)
  rw [hdr, hthre, htemt, dr_iff, thre_iff, temt_iff, List.length_pos_iff, List.length_eq_zero_iff]
  exact ⟨Iff.rfl, hoe, hpe, hfe, hbi, Iff.rfl, Iff.rfl⟩

/-! ### UART Status (43_status.md R142) -/

/-- BUSY = 1 says what is queued, shifting or being assembled (10_state.md R26). -/
theorem busy_iff (s : State) :
    busy s = true ↔ 0 < s.txFifo.length ∨ s.txShift ≠ none ∨ s.rxActive = true ∨
      (s.params.busyOnRxData = true ∧ 0 < s.rxFifo.length) := by
  simp only [busy, Bool.or_eq_true, Bool.and_eq_true, decide_eq_true_iff, Option.isSome_iff_ne_none,
    or_assoc, and_comm]

/-- UART Status names five bits; the others are zero. -/
theorem usrValue_getLsbD_of_ge (s : State) {k : Nat} (hk : 5 ≤ k) :
    (usrValue s).getLsbD k = false := by
  have hne (i : Nat) (hi : i < 5) : k ≠ i := by omega
  simp [usrValue, composeUsr, hne]

/-- UART Status is made of the FIFOs, the shift stage, the receiver, the FIFO enable and the
parameters. -/
theorem usrValue_congr {s t : State} (hparams : t.params = s.params) (hfifoe : t.fifoe = s.fifoe)
    (htx : t.txFifo = s.txFifo) (hshift : t.txShift = s.txShift) (hrx : t.rxFifo = s.rxFifo)
    (hactive : t.rxActive = s.rxActive) : usrValue t = usrValue s := by
  simp only [usrValue, busy, tfnf, tfe, rfne, rff, txCap_congr hparams hfifoe,
    rxCap_congr hparams hfifoe, hparams, htx, hshift, hrx, hactive]

/-- Settles O25: the five bits are the flags, each as its predicate, and nothing that RD_LSR changes
is part of them. -/
theorem readUartStatus : Obligations.ReadUartStatus := by
  intro s w
  obtain ⟨hbusy, htfnf, -, -, hrff, -⟩ := usrValue_bits s
  refine ⟨rfl, rfl, zext32 (usrValue s), rfl, ?busy, ?tfnf, ?tfe, ?rfne, ?rff, ?high,
    _, rfl, usrValue_congr rfl rfl rfl rfl rfl rfl⟩
  case busy => rw [zext32_getLsbD_of_lt _ (by decide), hbusy, busy_iff]
  case tfnf => rw [zext32_getLsbD_of_lt _ (by decide), htfnf, tfnf_iff, txCap]
  case tfe => rw [usrValue_tfe, tfe_iff, List.length_eq_zero_iff]
  case rfne => rw [usrValue_rfne, rfne_iff, List.length_pos_iff]
  case rff => rw [zext32_getLsbD_of_lt _ (by decide), hrff, rff_iff, rxCap]
  case high =>
    intro k hk
    rw [zext32_getLsbD, usrValue_getLsbD_of_ge s hk, Bool.and_false]

/-! ### Modem Status (43_status.md R143) -/

/-- The inputs count sixteens above the deltas. -/
theorem msrValue_toNat (s : State) :
    (msrValue s).toNat = 16 * s.msrIn.toNat + s.msrDelta.toNat := by
  rw [msrValue, BitVec.toNat_append, ← Nat.shiftLeft_add_eq_or_of_lt s.msrDelta.isLt,
    Nat.shiftLeft_eq, Nat.mul_comm]

/-- Settles O26: the value is sampled before the deltas are cleared. -/
theorem readModemStatus : Obligations.ReadModemStatus := by
  intro s w
  refine ⟨rfl, rfl, ?_⟩
  rw [← msrValue_toNat, BitVec.ofNat_toNat]
  rfl

/-! ### Component registers (43_status.md R146, R147, R148) -/

/-- Settles O28: the three constants are parameters, which no operation changes. -/
theorem readComponentRegisters : Obligations.ReadComponentRegisters := by
  intro s w
  refine ⟨rfl, rfl, rfl, rfl, rfl, rfl, rfl, rfl, rfl, fun i t h => ?_⟩
  rw [exec_params h]
  exact ⟨rfl, rfl, rfl⟩

/-! ### Writes to read-only registers (43_status.md R149) -/

/-- Settles O29: in either window each key hits the row of its write, and each write is the one that
is ignored. -/
theorem readOnlyWritesIgnored : Obligations.ReadOnlyWritesIgnored := by
  intro s w
  have hignored : ignoreWrite w s = .next s := ignoreWrite_eq w s
  exact ⟨⟨rfl, rfl, hignored⟩, ⟨rfl, rfl, hignored⟩, ⟨rfl, rfl, hignored⟩, ⟨rfl, rfl, hignored⟩,
    ⟨rfl, rfl, hignored⟩, ⟨rfl, rfl, hignored⟩, ⟨rfl, rfl, hignored⟩, ⟨rfl, rfl, hignored⟩⟩

end Sys2Proof.Machine
end

section
/-! SUPPORT. The serial-side events: which operations fault, each event where it is enabled, and the
bytes still to be sent along a run; with the settled statements of 44_line_events.md. -/

namespace Sys2Proof.Machine

/-! ### Event preconditions (44_line_events.md R160 to R164) -/

theorem txTakeEnabled_iff (s : State) :
    txTakeEnabled s = true ↔ s.txFifo ≠ [] ∧ s.txShift = none := by
  simp [txTakeEnabled, List.length_pos_iff, Option.isNone_iff_eq_none]

theorem txTakeEnabled_eq_false_iff (s : State) :
    txTakeEnabled s = false ↔ s.txFifo = [] ∨ s.txShift ≠ none := by
  rw [← Bool.not_eq_true, txTakeEnabled_iff, not_and_or, not_not]

theorem txDoneEnabled_eq_false_iff (s : State) : txDoneEnabled s = false ↔ s.txShift = none := by
  simp [txDoneEnabled]

theorem rxStartEnabled_eq_false_iff (s : State) :
    rxStartEnabled s = false ↔ s.rxActive = true := by
  simp [rxStartEnabled]

/-- An operation whose guard fails faults exactly when it has no refusal of its own (log 6). -/
theorem exec_fault_iff {i : Instr} {s : State} {r : Fault} :
    exec i s = .fault r ↔ answers i s = false ∧ refusalOf i = none := by
  cases h : exec i s with
  | next t =>
    obtain ⟨hanswers, -⟩ := exec_next_iff.1 h
    simp [hanswers]
  | refused q =>
    obtain ⟨-, hrefusal⟩ := exec_refused_iff.1 h
    simp [hrefusal]
  | fault q =>
    have hguard : answers i s = false :=
      Bool.eq_false_iff.2 fun ha => nomatch h.symm.trans (exec_next_iff.2 ⟨ha, rfl⟩)
    have hrefusal : refusalOf i = none :=
      Option.eq_none_iff_forall_ne_some.2 fun q hq =>
        nomatch h.symm.trans (exec_refused_iff.2 ⟨hguard, hq⟩)
    exact iff_of_true rfl ⟨hguard, hrefusal⟩

/-- Settles O39: among the operations that have no refusal only four events have a guard, and each
guard is the event's precondition. -/
theorem disabledEventsFault : Obligations.DisabledEventsFault := by
  intro i s
  rw [exec_fault_iff]
  cases i
  case txTake => simp [answers, refusalOf, txTakeEnabled_eq_false_iff]
  case txDone => simp [answers, refusalOf, txDoneEnabled_eq_false_iff]
  case rxStart => simp [answers, refusalOf, rxStartEnabled_eq_false_iff]
  case rxChar => simp [answers, refusalOf, rxCharEnabled]
  case wrDll | wrDlh | wrLcr | wrDlf | wrIer | wrMcr | rsvdRd | rsvdWr => simp [refusalOf]
  all_goals simp [answers]

/-! ### Each event where it is enabled (44_line_events.md R161 to R166) -/

/-- The state after TX_TAKE, with the byte taken by name (44_line_events.md R161). -/
theorem takeTx_cons {s : State} {b : Byte} {rest : List Byte} (h : s.txFifo = b :: rest) :
    takeTx s = { s with txShift := some b, txFifo := rest } := by
  rw [takeTx, h]
  rfl

/-- The state after TX_DONE, with the byte sent by name (44_line_events.md R162). -/
theorem finishTx_some {s : State} {b : Byte} (h : s.txShift = some b) :
    finishTx s = { s with txLog := s.txLog ++ [(b, s.lcr.getLsbD 6)], txShift := none } := by
  rw [finishTx, h]
  rfl

/-- With a byte in the shift stage the transmitter is not empty and the block is busy
(10_state.md R25, R26). -/
theorem flags_of_txShift_some {s : State} {b : Byte} (h : s.txShift = some b) :
    temt s = false ∧ busy s = true := by
  simp [temt, busy, h]

/-- Settles O33: the state afterwards has a byte in the shift stage, and its FIFO is one shorter. -/
theorem takeTransmitByte : Obligations.TakeTransmitByte := by
  intro s b rest hfifo hshift
  have hexec : exec .txTake s = .next (takeTx s) :=
    exec_next_iff.2 ⟨(txTakeEnabled_iff s).2 ⟨by simp [hfifo], hshift⟩, rfl⟩
  have hlevel : txLevel (takeTx s) + 1 = txLevel s := by simp [txLevel, hfifo]
  obtain ⟨htemt, hbusy⟩ := flags_of_txShift_some (s := takeTx s) (b := b) (by simp [hfifo])
  refine ⟨takeTx s, hexec, takeTx_cons hfifo, hlevel, ?thre, ?tfe, htemt, hbusy, fun hcap => ?tfnf⟩
  case thre => simp [hfifo]
  case tfe => simp [hfifo]
  case tfnf =>
    rw [tfnf_iff, txCap_congr (takeTx_params s) (takeTx_fifoe s)]
    change txLevel (takeTx s) < txCap s
    omega

/-- Settles O34: the stage is empty afterwards, so TEMT is left to the FIFO, which stays. -/
theorem finishTransmitByte : Obligations.FinishTransmitByte := by
  intro s b hshift
  refine ⟨finishTx s, exec_next_iff.2 ⟨?enabled, rfl⟩, finishTx_some hshift, ?temt⟩
  case enabled => simp [answers, txDoneEnabled, hshift]
  case temt => simp

/-- Settles O35: an assembling receiver is one of the disjuncts of BUSY. -/
theorem beginReceiveCharacter : Obligations.BeginReceiveCharacter := by
  intro s hidle
  refine ⟨exec_next_iff.2 ⟨?enabled, rfl⟩, (busy_iff _).2 (.inr (.inr (.inl rfl)))⟩
  case enabled => simp [answers, rxStartEnabled, hidle]

/-- The arrival of a character as one update of the state, for all three cases of its storage
(44_line_events.md R164). -/
theorem storeRx_eq (b : Byte) (s : State) :
    storeRx b s = { s with
      oe := s.oe || decide (rxCap s ≤ s.rxFifo.length)
      rxFifo :=
        if s.rxFifo.length < rxCap s then s.rxFifo ++ [b]
        else if s.fifoe then s.rxFifo
        else [b] } := by
  obtain ⟨hroom, h⟩ | ⟨hfull, hfifoe, h⟩ | ⟨hfull, hfifoe, h⟩ := storeRx_cases b s
  · simp [h, hroom]
  · simp [h, hfull, hfull.not_gt, hfifoe]
  · simp [h, hfull, hfull.not_gt, hfifoe]

/-- Settles O36: latching the flags leaves the capacity and the FIFO that the byte is stored in, and
after the storage the FIFO is not empty. -/
theorem deliverReceiveCharacter : Obligations.DeliverReceiveCharacter := by
  intro s b pe fe bi hactive
  have hnonempty := storeRx_rxFifo_ne_nil b (latchErrors pe fe bi (setRxActive false s))
  exact ⟨_, exec_next_iff.2 ⟨hactive, rfl⟩, storeRx_eq b _, (dr_iff _).2 hnonempty,
    (rfne_iff _).2 hnonempty⟩

/-- Settles O37: the deltas are computed from the levels of the state before. -/
theorem changeModemLines : Obligations.ChangeModemLines := fun _ _ => exec_next_iff.2 ⟨rfl, rfl⟩

/-! ### The events that the transmitter still needs to drain (44_line_events.md R168, R169) -/

/-- How many events of the transmit engine drain the transmitter: two for a byte in the FIFO, one for
a byte in the shift stage. -/
def txPending (s : State) : Nat := 2 * s.txFifo.length + s.txShift.toList.length

/-- The shift stage adds at most one, so it is occupied exactly when the number is odd. -/
theorem txPending_cases (s : State) :
    (s.txShift = none ∧ txPending s = 2 * s.txFifo.length) ∨
      (txDoneEnabled s = true ∧ txPending s = 2 * s.txFifo.length + 1) := by
  cases h : s.txShift <;> simp [txPending, txDoneEnabled, h]

/-- TEMT says that no event of the transmit engine is needed any more (10_state.md R25). -/
theorem temt_iff_txPending (s : State) : temt s = true ↔ txPending s = 0 := by
  rw [temt_iff]
  simp [txPending]

/-- At an odd number TX_DONE is the event to come. -/
theorem txDoneEnabled_of_odd {s : State} (h : txPending s % 2 = 1) : txDoneEnabled s = true := by
  obtain ⟨-, heven⟩ | ⟨henabled, -⟩ := txPending_cases s
  · omega
  · exact henabled

/-- At an even number that is not 0 TX_TAKE is the event to come. -/
theorem txTakeEnabled_of_even {s : State} (h : txPending s % 2 = 0) (hpos : txPending s ≠ 0) :
    txTakeEnabled s = true := by
  obtain ⟨hshift, hlength⟩ | ⟨-, hodd⟩ := txPending_cases s
  · exact (txTakeEnabled_iff s).2 ⟨List.length_pos_iff.1 (by omega), hshift⟩
  · omega

/-- TX_TAKE is one of the events that are still needed. -/
theorem exec_txTake_txPending {s t : State} (h : exec .txTake s = .next t) :
    txPending t + 1 = txPending s := by
  obtain ⟨henabled, rfl⟩ := exec_next_iff.1 h
  obtain ⟨hfifo, hshift⟩ := (txTakeEnabled_iff s).1 henabled
  obtain ⟨b, rest, hcons⟩ := List.exists_cons_of_ne_nil hfifo
  change txPending (takeTx s) + 1 = txPending s
  simp only [txPending, takeTx_txFifo, takeTx_txShift, hcons, hshift, List.tail_cons, List.head?_cons,
    Option.toList_some, Option.toList_none, List.length_cons, List.length_nil]
  omega

/-- TX_DONE is one of the events that are still needed. -/
theorem exec_txDone_txPending {s t : State} (h : exec .txDone s = .next t) :
    txPending t + 1 = txPending s := by
  obtain ⟨henabled, rfl⟩ := exec_next_iff.1 h
  obtain ⟨b, hshift⟩ := Option.isSome_iff_exists.1 henabled
  change txPending (finishTx s) + 1 = txPending s
  simp [txPending, hshift]

/-- A write of FIFO Control keeps the transmit FIFO or empties it. -/
theorem writeFcr_txFifo_length_le (f : FcrFields) (s : State) :
    (writeFcr f s).txFifo.length ≤ s.txFifo.length := by
  rw [writeFcr_txFifo]
  split
  · exact Nat.zero_le _
  · exact le_rfl

/-- With the shift stage as it is, a FIFO that is no longer needs no more events. -/
theorem txPending_le_of_length_le {s t : State} (hshift : t.txShift = s.txShift)
    (hle : t.txFifo.length ≤ s.txFifo.length) : txPending t ≤ txPending s := by
  rw [txPending, txPending, hshift]
  omega

/-- No operation but WR_THR makes more events needed. -/
theorem exec_txPending_le {i : Instr} {s t : State} (h : exec i s = .next t)
    (hi : ∀ w, i ≠ .wrThr w) : txPending t ≤ txPending s := by
  obtain ⟨-, rfl⟩ := exec_next_iff.1 h
  have hfifo := effect_txFifo i s
  have hshift := effect_txShift i s
  cases i
  case wrThr w => exact absurd rfl (hi w)
  case txTake => exact (Nat.le_succ _).trans (exec_txTake_txPending h).le
  case txDone => exact (Nat.le_succ _).trans (exec_txDone_txPending h).le
  case reset => simp [txPending, hfifo, hshift]
  case wrFcr => exact txPending_le_of_length_le hshift (writeFcr_txFifo_length_le _ s)
  all_goals exact txPending_le_of_length_le hshift (congrArg List.length hfifo).le

/-- Along a run without WR_THR the number of events still needed comes to rest. -/
theorem Run.exists_txPending_eq (r : Run) (n : Nat) (h : ∀ m, n ≤ m → ∀ w, r.op m ≠ .wrThr w) :
    ∃ m, n ≤ m ∧ ∀ k, m ≤ k → txPending (r.state k) = txPending (r.state m) := by
  have hanti : Antitone fun j => txPending (r.state (n + j)) :=
    antitone_nat_of_succ_le fun j => exec_txPending_le (r.steps (n + j)) (h _ (Nat.le_add_right n j))
  obtain ⟨j, hj⟩ := WellFoundedLT.antitone_chain_condition hanti
  refine ⟨n + j, Nat.le_add_right n j, fun k hk => ?_⟩
  obtain ⟨d, rfl⟩ := Nat.exists_eq_add_of_le hk
  rw [Nat.add_assoc]
  exact (hj (j + d) (Nat.le_add_right j d)).symm

/-- While the number of events still needed rests at a value that is not 0, one event of the transmit
engine stays enabled; fairness makes it occur, and that lowers the number. -/
theorem Run.txPending_eq_zero {r : Run} {m : Nat} (hfair : r.fair)
    (hdiv : ∀ k, m ≤ k → divisorInt (r.state k) ≠ 0)
    (hrest : ∀ k, m ≤ k → txPending (r.state k) = txPending (r.state m)) :
    txPending (r.state m) = 0 := by
  obtain ⟨htake, hdone⟩ := hfair m
  by_contra hpos
  have hstill {k : Nat} (hk : m ≤ k) : txPending (r.state (k + 1)) = txPending (r.state k) :=
    (hrest (k + 1) (by omega)).trans (hrest k hk).symm
  obtain heven | hodd := Nat.mod_two_eq_zero_or_one (txPending (r.state m))
  · obtain ⟨k, hk, hop⟩ := htake fun k hk =>
      ⟨txTakeEnabled_of_even (by rw [hrest k hk, heven]) (by rwa [hrest k hk]), hdiv k hk⟩
    have hfewer := exec_txTake_txPending (hop ▸ r.steps k)
    have hsame := hstill hk
    omega
  · obtain ⟨k, hk, hop⟩ := hdone fun k hk =>
      ⟨txDoneEnabled_of_odd (by rw [hrest k hk, hodd]), hdiv k hk⟩
    have hfewer := exec_txDone_txPending (hop ▸ r.steps k)
    have hsame := hstill hk
    omega

/-- Settles O60: the number of events still needed comes to rest, and it can rest only at 0, which is
TEMT. -/
theorem fairRunDrainsTheTransmitter : Obligations.FairRunDrainsTheTransmitter := by
  intro r n hfair hquiet
  obtain ⟨m, hnm, hrest⟩ := r.exists_txPending_eq n fun m hm => (hquiet m hm).1
  have hdiv (k : Nat) (hk : m ≤ k) : divisorInt (r.state k) ≠ 0 := by
    obtain ⟨-, -, hd⟩ := hquiet k (hnm.trans hk)
    exact hd
  refine ⟨m, hnm, fun k hk => ?_⟩
  rw [temt_iff_txPending, hrest k hk]
  exact Run.txPending_eq_zero hfair hdiv hrest

end Sys2Proof.Machine
end

section
/-! SUPPORT. The accesses of the host sequences as operations of the block, one bus operation of each
sequence, and the sequences on a quiet line; with the settled statements of 45_host_sequences.md R181
to R186. -/

namespace Sys2Proof.Machine

/-! ### The accesses as operations (30_encoding.md R62, R63) -/

/-- An access at the offset of a register stands for the operation that its key decodes to. -/
theorem nextInstr_access {s : State} {wr : Bool} {reg : RegName} {w : Word} {i : Instr}
    (h : decode (.bus (keyOf wr (dlab s) (BitVec.ofNat 8 reg.offset)) w) = .ok i) :
    nextInstr s (.access wr reg.offset 4 w) = .ok i := by
  have hgood : goodAccess reg.offset 4 = true := by cases reg <;> rfl
  exact nextInstr_ok_iff.2 ⟨_, if_pos hgood, h⟩

/-- In either window a read at the offset of UART Status is RD_USR, whatever data word it carries. -/
theorem nextInstr_usr (s : State) (w : Word) :
    nextInstr s (.access false RegName.usr.offset 4 w) = .ok .rdUsr :=
  nextInstr_access (by cases dlab s <;> rfl)

/-- In either window a read at the offset of Line Status is RD_LSR, whatever data word it carries. -/
theorem nextInstr_lsr (s : State) (w : Word) :
    nextInstr s (.access false RegName.lsr.offset 4 w) = .ok .rdLsr :=
  nextInstr_access (by cases dlab s <;> rfl)

theorem nextInstr_readLcr (s : State) : nextInstr s (readReg .lcr) = .ok .rdLcr :=
  nextInstr_access (by cases dlab s <;> rfl)

theorem nextInstr_writeLcr (s : State) (w : Word) :
    nextInstr s (writeReg .lcr w) = .ok (.wrLcr w) :=
  nextInstr_access (by cases dlab s <;> rfl)

theorem nextInstr_writeFcr (s : State) (w : Word) :
    nextInstr s (writeReg .fcr w) = .ok (.wrFcr w) :=
  nextInstr_access (by cases dlab s <;> rfl)

/-- The receive buffer is read in the normal window (30_encoding.md R61). -/
theorem nextInstr_readRbr {s : State} (h : dlab s = false) :
    nextInstr s (readReg .rbr) = .ok .rdRbr :=
  nextInstr_access (by rw [h]; rfl)

/-- The transmit FIFO is written in the normal window (30_encoding.md R61). -/
theorem nextInstr_writeThr {s : State} (h : dlab s = false) (w : Word) :
    nextInstr s (writeReg .thr w) = .ok (.wrThr w) :=
  nextInstr_access (by rw [h]; rfl)

/-- The three divisor latches are written in the divisor window (30_encoding.md R61). -/
theorem nextInstr_writeDivisor {s : State} (h : dlab s = true) (w : Word) :
    nextInstr s (writeReg .dlf w) = .ok (.wrDlf w) ∧
      nextInstr s (writeReg .dll w) = .ok (.wrDll w) ∧
      nextInstr s (writeReg .dlh w) = .ok (.wrDlh w) :=
  ⟨nextInstr_access (by rw [h]; rfl), nextInstr_access (by rw [h]; rfl),
    nextInstr_access (by rw [h]; rfl)⟩

/-! ### One bus operation, and several on a quiet line -/

@[simp] theorem lastReply_reply (v : Word) (s : State) : lastReply (reply v s) = v := by
  simp [lastReply]

/-- A bus operation that is answered leaves the answered state and goes on with the last reply. -/
theorem hostStep_of_exec {pc : HostPc} {s t : State} {x : Input} {i : Instr}
    (hx : pc.access = some x) (hn : nextInstr s x = .ok i) (he : exec i s = .next t) :
    hostStep pc s = .next (pc.resume (lastReply t), t) := by
  simp only [hostStep, hx, serve_of_nextInstr hn, he]

/-- Where the next access is a read of UART Status (43_status.md R142). -/
theorem hostStep_usr {pc : HostPc} (s : State) (hx : pc.access = some (readReg .usr)) :
    hostStep pc s =
      .next (pc.resume (zext32 (usrValue s)), reply (zext32 (usrValue s)) s) := by
  rw [hostStep_of_exec hx (nextInstr_usr s 0) rfl, lastReply_reply]

/-- What RD_LSR answers: Line Status with the next free bit as bit 7 (43_status.md R140). -/
def lsrAnswer (s : State) : Word := zext32 (lsrValue s ((drawn 1 s).getLsbD 0))

/-- What RD_LSR leaves: it has answered, a free value is used up, the latches are clear
(43_status.md R140). -/
def afterRdLsr (s : State) : State :=
  { s with
    oe := false, pe := false, fe := false, bi := false
    replies := s.replies ++ [lsrAnswer s], draws := s.draws + 1 }

theorem exec_rdLsr (s : State) : exec .rdLsr s = .next (afterRdLsr s) := rfl

/-- Where the next access is a read of Line Status (43_status.md R140). -/
theorem hostStep_lsr {pc : HostPc} (s : State) (hx : pc.access = some (readReg .lsr)) :
    hostStep pc s = .next (pc.resume (lsrAnswer s), afterRdLsr s) := by
  have hlast : lastReply (afterRdLsr s) = lsrAnswer s := by simp [lastReply, afterRdLsr]
  rw [hostStep_of_exec hx (nextInstr_lsr s 0) (exec_rdLsr s), hlast]

/-- A run of a host thread is one bus operation and the run from where that leads. -/
theorem hostRun_succ {k : Nat} {pc pc' : HostPc} {s t : State}
    {r : Host.Outcome (HostPc × State) Fault Refusal} (h : hostStep pc s = .next (pc', t))
    (hr : hostRun k pc' t = r) : hostRun (k + 1) pc s = r := by
  rw [← hr, hostRun, h]

/-! ### The queries (45_host_sequences.md R182, R185) -/

theorem rxFifoEmpty_usrValue (s : State) : rxFifoEmpty (zext32 (usrValue s)) = !rfne s :=
  congrArg _ (usrValue_rfne s)

/-- TFNF = 0 says that the transmit FIFO is full (10_state.md R26). -/
theorem not_tfnf_eq (s : State) : (!tfnf s) = decide (txCap s ≤ s.txFifo.length) := by
  rw [tfnf, ← decide_not, decide_eq_decide, Nat.not_lt]

/-- RFNE = 0 says that the receive FIFO is empty (10_state.md R26). -/
theorem not_rfne_eq (s : State) : (!rfne s) = decide (s.rxFifo = []) := by
  rw [rfne, ← decide_not, decide_eq_decide, List.length_pos_iff, not_not]

/-- Settles O58: each query is one read of UART Status and the negation of its flag. -/
theorem queriesAnswerWithoutEffect : Obligations.QueriesAnswerWithoutEffect := by
  refine fun s => ⟨zext32 (usrValue s), ?full, ?empty⟩
  case full => rw [hostStep_usr s rfl, HostPc.resume, txFifoFull_usrValue, not_tfnf_eq]; rfl
  case empty => rw [hostStep_usr s rfl, HostPc.resume, rxFifoEmpty_usrValue, not_rfne_eq]; rfl

/-! ### FLUSH (45_host_sequences.md R184) -/

/-- Settles O56: the read of Line Status shows TEMT. -/
theorem flushReturnsWhenTransmitterEmpty : Obligations.FlushReturnsWhenTransmitterEmpty := by
  refine fun s => ⟨lsrAnswer s, ?_⟩
  rw [hostStep_lsr s rfl, HostPc.resume, lsrAnswer, txDrained_lsrValue]
  simp only [temt_iff]
  rfl

/-! ### WRITE_WORD (45_host_sequences.md R183) -/

/-- The read of WRITE_WORD leads back to itself or to the write, by TFNF. -/
theorem hostStep_w0 (b : Byte) (s : State) :
    hostStep (.w0 b) s =
      .next (if tfnf s then .w1 b else .w0 b, reply (zext32 (usrValue s)) s) := by
  rw [hostStep_usr s rfl, HostPc.resume, txFifoFull_usrValue]
  cases tfnf s <;> rfl

/-- The write of WRITE_WORD with room appends the byte and ends the sequence. -/
theorem hostStep_w1 (b : Byte) {s : State} (hn : dlab s = false)
    (hroom : s.txFifo.length < txCap s) :
    hostStep (.w1 b) s = .next (.done .unit, { s with txFifo := s.txFifo ++ [b] }) := by
  have hbyte : (zext32 b).setWidth 8 = b := by rw [← byteOperand_eq, byteOperand_zext32]
  have hexec := exec_wrThr_room (zext32 b) hroom
  rw [hbyte] at hexec
  exact hostStep_of_exec rfl (nextInstr_writeThr hn _) hexec

/-- Settles O55: the read by TFNF, the write in any state with room, and the one after the other. -/
theorem writeWordWaitsForRoom : Obligations.WriteWordWaitsForRoom := by
  refine fun s b hn => ⟨zext32 (usrValue s), fun hfull => ?full, fun hroom => ?room⟩
  case full =>
    have htfnf : ¬ tfnf s = true := fun h => absurd ((tfnf_iff s).1 h) (Nat.not_lt.2 hfull)
    rw [hostStep_w0, if_neg htfnf]; rfl
  case room =>
    have hread : hostStep (.w0 b) s = .next (.w1 b, reply (zext32 (usrValue s)) s) := by
      rw [hostStep_w0, if_pos ((tfnf_iff s).2 hroom)]
    have hwrite := hostStep_w1 b (s := reply (zext32 (usrValue s)) s) hn hroom
    exact ⟨hread, hostStep_w1 b hn hroom, hostRun_succ hread (hostRun_succ hwrite rfl)⟩

/-! ### READ_WORD (45_host_sequences.md R186) -/

/-- The class of a Line Status value by the latches and DR (60_exceptions.md R203). -/
theorem rxClass_lsrValue (s : State) (d : Bool) :
    rxClass (lsrValue s d) =
      if s.bi then .breakError else if s.fe then .framingError else if s.pe then .parityError
      else if s.oe then .overrunError else if dr s then .data else .noData := by
  obtain ⟨hdr, hoe, hpe, hfe, hbi, -⟩ := lsrValue_bits s d
  rw [rxClass, hdr, hoe, hpe, hfe, hbi]

/-- Where READ_WORD goes on by the class of a Line Status value. -/
def afterClass : RxClass → HostPc
  | .noData => .done (.readOk none)
  | .data => .r2
  | c => .done (.readError c)

theorem afterLsr_eq (lsr : Byte) : afterLsr lsr = afterClass (rxClass lsr) := by
  unfold afterLsr
  split <;> simp only [*, afterClass]

/-- The read of Line Status of READ_WORD goes on by the class of its value. -/
theorem hostStep_r0 {s : State} {c : RxClass}
    (h : rxClass (lsrValue s ((drawn 1 s).getLsbD 0)) = c) :
    hostStep .r0 s = .next (afterClass c, afterRdLsr s) := by
  rw [hostStep_lsr s rfl, HostPc.resume, lsrAnswer, byteOperand_zext32, afterLsr_eq, h]

/-- The read of the buffer of READ_WORD takes the oldest byte and ends the sequence. -/
theorem hostStep_r2 {s : State} {b : Byte} {rest : List Byte} (hn : dlab s = false)
    (h : s.rxFifo = b :: rest) :
    hostStep .r2 s = .next (.done (.readOk (some b)),
      { s with rxFifo := rest, replies := s.replies ++ [b.setWidth 32] }) := by
  have hlast : byteOperand (lastReply { s with
      rxFifo := rest, replies := s.replies ++ [b.setWidth 32] }) = b := by
    rw [lastReply, List.getLastD_concat]; exact byteOperand_zext32 b
  rw [hostStep_of_exec rfl (nextInstr_readRbr hn) (exec_rdRbr_cons h), HostPc.resume, hlast]

/-- Settles O57: one case for each class of R203, and with data the read of the buffer after it. -/
theorem readWordClassifiesOnce : Obligations.ReadWordClassifiesOnce := by
  refine ⟨fun s b rest hn h => hostStep_r2 hn h, fun s hn => ⟨lsrAnswer s, afterRdLsr s, rfl, ?_⟩⟩
  have hclass := rxClass_lsrValue s ((drawn 1 s).getLsbD 0)
  split_ifs at hclass ⊢ with hbi hfe hpe hoe hdr
  · exact hostStep_r0 hclass
  · exact hostStep_r0 hclass
  · exact hostStep_r0 hclass
  · exact hostStep_r0 hclass
  · obtain ⟨b, rest, hfifo⟩ := List.exists_cons_of_ne_nil ((dr_iff s).1 hdr)
    have hread := hostStep_r0 hclass
    have htake := hostStep_r2 (s := afterRdLsr s) hn hfifo
    have hreplies : (afterRdLsr s).replies ++ [b.setWidth 32] =
        s.replies ++ [lsrAnswer s, b.setWidth 32] := List.append_assoc _ _ _
    rw [hreplies] at htake
    rw [hfifo]
    exact ⟨hread, hostRun_succ hread (hostRun_succ htake rfl)⟩
  · have hempty : s.rxFifo = [] := not_not.1 (hdr ∘ (dr_iff s).2)
    rw [hempty]
    exact hostStep_r0 hclass

end Sys2Proof.Machine
end

section
/-! SUPPORT. CONFIGURE, label by label, on a line where nothing is queued, sent or received; with the
settled statement of 45_host_sequences.md R181. -/

namespace Sys2Proof.Machine

/-! ### The words that CONFIGURE tests and writes -/

/-- CONFIGURE has one first label (45_host_sequences.md R181). -/
theorem configure_start {baud clock : Word} {pc : HostPc}
    (h : (HostCall.configure baud clock).start = some pc) : pc = .c0 baud clock := by
  simp only [HostCall.start] at h
  split at h
  · cases h
  · exact (Option.some.inj h).symm

/-- The poll of CONFIGURE tests BUSY (45_host_sequences.md R181, 43_status.md R142). -/
theorem usrValue_and_one (s : State) : zext32 (usrValue s) &&& 1 ≠ 0 ↔ busy s = true := by
  have hbit : (zext32 (usrValue s)).getLsbD 0 = busy s := isBusy_usrValue s
  have hand : zext32 (usrValue s) &&& 1 = (BitVec.ofBool (busy s)).setWidth 32 := by
    rw [← hbit]; exact BitVec.and_one_eq_setWidth_ofBool_getLsbD
  rw [hand]
  cases busy s <;> decide

/-- The word that CONFIGURE writes back to Line Control opens the divisor window. -/
theorem byteOperand_or_dlab (l : Word) : (byteOperand (l ||| 0x80)).getLsbD 7 = true := by
  simp [byteOperand]

/-- The low byte of a number is its byte operand (30_encoding.md R76 a). -/
theorem byteOperand_ofNat_mod (n : Nat) :
    byteOperand (BitVec.ofNat 32 (n % 256)) = BitVec.ofNat 8 n := by
  rw [byteOperand_eq, BitVec.setWidth_ofNat_of_le (by decide)]
  exact BitVec.eq_of_toNat_eq (Nat.mod_mod n 256)

theorem fracOperand_ofNat (n : Nat) : fracOperand (BitVec.ofNat 32 n) = BitVec.ofNat 4 n := by
  rw [fracOperand_eq, BitVec.setWidth_ofNat_of_le (by decide)]

/-- The last write of CONFIGURE enables the FIFOs; with nothing to transmit it empties the receive
FIFO if they were not enabled, and stores zeros in the other fields (42_fifo_modem_control.md R122). -/
theorem exec_wrFcr_enable {s : State} (htx : s.txFifo = []) :
    exec (.wrFcr 0x01) s = .next { s with
      fifoe := true, dmam := false, tet := 0, rt := 0
      rxFifo := if s.fifoe then s.rxFifo else [] } := by
  have hfields : decomposeFcr (byteOperand 0x01) = ⟨true, false, false, false, 0, 0⟩ := rfl
  have hexec : exec (.wrFcr 0x01) s = .next (writeFcr ⟨true, false, false, false, 0, 0⟩ s) := by
    rw [← hfields]; rfl
  rw [hexec, writeFcr_eq]
  cases hf : s.fifoe <;> simp [htx]

/-! ### The eight bus operations of CONFIGURE (45_host_sequences.md R181) -/

section Labels

variable (baud clock : Word)

theorem hostStep_c0 (s : State) :
    hostStep (.c0 baud clock) s =
      .next (if busy s then .c0 baud clock else .c1Read baud clock,
        reply (zext32 (usrValue s)) s) := by
  rw [hostStep_usr s rfl, HostPc.resume]
  simp only [usrValue_and_one]

theorem hostStep_c1Read (s : State) :
    hostStep (.c1Read baud clock) s =
      .next (.c1Write baud clock (zext32 s.lcr), reply (zext32 s.lcr) s) := by
  rw [hostStep_of_exec rfl (nextInstr_readLcr s) rfl, lastReply_reply]; rfl

theorem hostStep_c1Write (l : Word) {s : State} (hidle : busy s = false) :
    hostStep (.c1Write baud clock l) s =
      .next (.c3Frac baud clock, { s with lcr := byteOperand (l ||| 0x80) }) :=
  hostStep_of_exec rfl (nextInstr_writeLcr s _) (unlessBusy_next.2 ⟨hidle, rfl⟩)

theorem hostStep_c3Frac {s : State} (hidle : busy s = false) (hdiv : dlab s = true) :
    hostStep (.c3Frac baud clock) s =
      .next (.c3Low baud clock, { s with dlf := BitVec.ofNat 4 (fracFor baud clock) }) := by
  obtain ⟨hdlf, -, -⟩ := nextInstr_writeDivisor hdiv (BitVec.ofNat 32 (fracFor baud clock))
  exact hostStep_of_exec rfl hdlf (unlessBusy_next.2 ⟨hidle, by rw [fracOperand_ofNat]⟩)

theorem hostStep_c3Low {s : State} (hidle : busy s = false) (hdiv : dlab s = true) :
    hostStep (.c3Low baud clock) s =
      .next (.c3High baud clock, { s with dll := BitVec.ofNat 8 (divisorFor baud clock) }) := by
  obtain ⟨-, hdll, -⟩ :=
    nextInstr_writeDivisor hdiv (BitVec.ofNat 32 (divisorFor baud clock % 256))
  exact hostStep_of_exec rfl hdll (unlessBusy_next.2 ⟨hidle, by rw [byteOperand_ofNat_mod]⟩)

theorem hostStep_c3High {s : State} (hidle : busy s = false) (hdiv : dlab s = true) :
    hostStep (.c3High baud clock) s =
      .next (.c4 baud clock, { s with dlh := BitVec.ofNat 8 (divisorFor baud clock / 256) }) := by
  obtain ⟨-, -, hdlh⟩ :=
    nextInstr_writeDivisor hdiv (BitVec.ofNat 32 (divisorFor baud clock / 256 % 256))
  exact hostStep_of_exec rfl hdlh (unlessBusy_next.2 ⟨hidle, by rw [byteOperand_ofNat_mod]⟩)

theorem hostStep_c4 {s : State} (hidle : busy s = false) :
    hostStep (.c4 baud clock) s = .next (.c5 baud clock, { s with lcr := 0x03 }) :=
  hostStep_of_exec rfl (nextInstr_writeLcr s _) (unlessBusy_next.2 ⟨hidle, rfl⟩)

theorem hostStep_c5 {s : State} (htx : s.txFifo = []) :
    hostStep (.c5 baud clock) s = .next (.done .unit, { s with
      fifoe := true, dmam := false, tet := 0, rt := 0
      rxFifo := if s.fifoe then s.rxFifo else [] }) :=
  hostStep_of_exec rfl (nextInstr_writeFcr s _) (exec_wrFcr_enable htx)

end Labels

/-! ### CONFIGURE on a quiet line -/

/-- Settles O54: the poll by BUSY, and the eight bus operations one after the other. No write touches
what BUSY is made of, so none of them is refused. -/
theorem configureReachesItsEndState : Obligations.ConfigureReachesItsEndState := by
  intro s baud clock pc hpc
  obtain rfl := configure_start hpc
  refine ⟨zext32 (usrValue s), fun hbusy => ?busy, fun hidle => ?idle⟩
  case busy => rw [hostStep_c0, if_pos hbusy]; rfl
  case idle =>
    have hpoll : hostStep (.c0 baud clock) s =
        .next (.c1Read baud clock, reply (zext32 (usrValue s)) s) := by
      rw [hostStep_c0, if_neg (Bool.eq_false_iff.1 hidle)]
    have hdiv := byteOperand_or_dlab (zext32 s.lcr)
    obtain ⟨htx, -⟩ := (busy_eq_false_iff s).1 hidle
    refine hostRun_succ hpoll <| hostRun_succ (hostStep_c1Read ..) <|
      hostRun_succ (hostStep_c1Write _ _ _ hidle) <|
      hostRun_succ (hostStep_c3Frac _ _ hidle hdiv) <|
      hostRun_succ (hostStep_c3Low _ _ hidle hdiv) <|
      hostRun_succ (hostStep_c3High _ _ hidle hdiv) <|
      hostRun_succ (hostStep_c4 _ _ hidle) <| hostRun_succ (hostStep_c5 _ _ htx) ?_
    simp [hostRun, reply, divisorFor, fracFor, zext32]

end Sys2Proof.Machine
end

section
/-! SUPPORT. The two reads of a shared view and what they change, which accesses and calls are a
view's, and the turns of a view in a host system; with the settled statement of 45_host_sequences.md
R188 and 60_exceptions.md R210 to R212. -/

namespace Sys2Proof.Machine

/-! ### The two reads of a view (60_exceptions.md R211) -/

/-- What a shared view may issue. -/
def IsViewRead (i : Instr) : Prop := i = .rdUsr ∨ i = .rdLsr

theorem mayIssue_view_iff (i : Instr) : AccessClass.view.mayIssue i = true ↔ IsViewRead i := by
  simp [AccessClass.mayIssue, IsViewRead]

theorem view_mayIssue_eq_false {i : Instr} (husr : i ≠ .rdUsr) (hlsr : i ≠ .rdLsr) :
    AccessClass.view.mayIssue i = false :=
  Bool.eq_false_iff.2 fun h => ((mayIssue_view_iff i).1 h).elim husr hlsr

/-- Nothing but the error latches differs, and those are at most cleared; the model's replies and
draws aside. -/
def TouchesOnlyLatches (s t : State) : Prop :=
  t = { s with
    oe := t.oe, pe := t.pe, fe := t.fe, bi := t.bi, replies := t.replies, draws := t.draws } ∧
  (t.oe = true → s.oe = true) ∧ (t.pe = true → s.pe = true) ∧
  (t.fe = true → s.fe = true) ∧ (t.bi = true → s.bi = true)

theorem touchesOnlyLatches_refl (s : State) : TouchesOnlyLatches s s :=
  ⟨rfl, id, id, id, id⟩

/-- Both reads are answered in every state of the block (43_status.md R140, R142). -/
theorem exec_viewRead {i : Instr} (hi : IsViewRead i) (s : State) :
    exec i s = .next (effect i s) := by
  obtain rfl | rfl := hi <;> rfl

/-- RD_USR only answers; RD_LSR answers and clears the latches. -/
theorem effect_viewRead {i : Instr} (hi : IsViewRead i) (s : State) :
    TouchesOnlyLatches s (effect i s) := by
  obtain rfl | rfl := hi
  · exact ⟨rfl, id, id, id, id⟩
  · exact ⟨rfl, nofun, nofun, nofun, nofun⟩

/-- A view's reads are reads: no write decodes to them (30_encoding.md R63). -/
theorem not_wr_of_viewRead {s : State} {wr : Bool} {offset width : Nat} {w : Word} {i : Instr}
    (hi : IsViewRead i) (hn : nextInstr s (.access wr offset width w) = .ok i) : wr = false := by
  obtain ⟨e, he, hd⟩ := nextInstr_ok_iff.1 hn
  simp only [encodedInput] at he
  split at he
  · obtain rfl := Except.ok.inj he
    obtain ⟨-, henc⟩ := encodeAt_of_decodeBus hd
    obtain rfl | rfl := hi
    all_goals
      obtain ⟨hkey, -⟩ := Encoded.bus.inj henc
      simpa using (congrArg keyWr hkey).symm
  · cases he

/-! ### The sequences of a view (45_host_sequences.md R188) -/

/-- A shared sequence issues reads of UART Status and Line Status alone. -/
theorem operations_of_view {c : HostCall} (hc : c.accessClass = .view) :
    ∀ op ∈ c.operations, op = (false, .usr) ∨ op = (false, .lsr) := by
  cases c with
  | configure _ _ | writeWord _ | readWord => cases hc
  | isTxFifoFull | isRxFifoEmpty | flush => simp [HostCall.operations]
  | poll reg _ _ =>
    have hreg : reg = .usr ∨ reg = .lsr := by
      by_contra hne
      simp [HostCall.accessClass, hne] at hc
    obtain rfl | rfl := hreg <;> simp [HostCall.operations]

/-- A shared sequence has a first label, whatever its operands. -/
theorem exists_start_of_view {c : HostCall} (hc : c.accessClass = .view) :
    ∃ pc, c.start = some pc := by
  cases c with
  | configure _ _ => cases hc
  | _ => exact ⟨_, rfl⟩

/-- In every state of the block the next access of a shared sequence is one of the two reads. -/
theorem nextInstr_of_viewCall {pc : HostPc} {c : HostCall} {x : Input} (hc : pc.call = some c)
    (hv : c.accessClass = .view) (hx : pc.access = some x) (s : State) :
    ∃ i, nextInstr s x = .ok i ∧ IsViewRead i := by
  obtain ⟨wr, reg, v, hmem, rfl⟩ := HostPc.access_mem_operations hc hx
  obtain hop | hop := operations_of_view hv _ hmem
  · obtain ⟨rfl, rfl⟩ := Prod.mk.inj hop
    exact ⟨_, nextInstr_usr s v, .inl rfl⟩
  · obtain ⟨rfl, rfl⟩ := Prod.mk.inj hop
    exact ⟨_, nextInstr_lsr s v, .inr rfl⟩

theorem mayCall_view_iff (c : HostCall) :
    AccessClass.view.mayCall c = true ↔ c.accessClass = .view := by
  simp [AccessClass.mayCall]

/-! ### The turns of a thread -/

/-- A thread of a well-formed set is in no call that is not its class's. -/
theorem HostSystem.callAllowed_of_wellFormed {h : HostSystem} {n : Nat} {th : HostThread}
    (hw : h.wellFormed = true) (hn : h.threads[n]? = some th) :
    h.oneOwner = true ∧ th.callAllowed = true := by
  obtain ⟨howner, hall⟩ := Bool.and_eq_true_iff.1 hw
  exact ⟨howner, List.all_eq_true.1 hall th (List.mem_of_getElem? hn)⟩

theorem HostSystem.step_thread {h : HostSystem} {n : Nat} {th : HostThread}
    (hn : h.threads[n]? = some th) : h.step (.thread n) = h.goOn n th := by
  simp only [step, hn]

theorem HostSystem.step_act {h : HostSystem} {n : Nat} {th : HostThread} (a : HostAction)
    (hn : h.threads[n]? = some th) (hpc : th.pc.call = none) :
    h.step (.act n a) = h.act n th a := by
  simp only [step, hn, if_pos hpc]

/-- Between its calls a thread issues a bus operation of its own. -/
theorem HostSystem.act_issue (h : HostSystem) (n : Nat) (th : HostThread) (wr : Bool)
    (offset width : Nat) (w : Word) :
    h.act n th (.issue wr offset width w) = h.access n th (.access wr offset width w)
      (fun v => .done (if wr then .unit else .value v)) := rfl

/-- A thread in a call goes on with its access, if its class may make the call. -/
theorem HostSystem.goOn_access {h : HostSystem} {n : Nat} {th : HostThread} {x : Input}
    (hx : th.pc.access = some x) :
    h.goOn n th =
      if th.callAllowed then h.access n th x th.pc.resume else .refused .outsideClass := by
  simp only [goOn, hx]

/-- An operation outside the class of its thread is refused (60_exceptions.md R211; log 18). -/
theorem HostSystem.access_outsideClass {h : HostSystem} {n : Nat} {th : HostThread} {x : Input}
    {i : Instr} {f : Word → HostPc} (ho : h.oneOwner = true) (hn : nextInstr h.dev x = .ok i)
    (hi : th.cls.mayIssue i = false) : h.access n th x f = .refused .outsideClass := by
  simp [access, ho, hn, hi]

/-- A view's bus operation, where it is answered, touches only the latches. -/
theorem HostSystem.access_view_touches {h h' : HostSystem} {n : Nat} {pc : HostPc} {x : Input}
    {f : Word → HostPc} (ha : h.access n ⟨.view, pc⟩ x f = .next h') :
    TouchesOnlyLatches h.dev h'.dev := by
  obtain ⟨-, i, t, -, hi, ht, rfl⟩ := access_next_iff.1 ha
  obtain ⟨-, rfl⟩ := exec_next_iff.1 ht
  exact effect_viewRead ((mayIssue_view_iff i).1 hi) h.dev

/-- Taking another class leaves the block as it is. -/
theorem HostSystem.become_dev {h h' : HostSystem} {n : Nat} {th : HostThread} {c : AccessClass}
    (hb : h.become n th c = .next h') : h'.dev = h.dev := by
  unfold become at hb
  split at hb
  · obtain rfl := Host.Outcome.next.inj hb; rfl
  · cases hb

/-- Making a call leaves the block as it is. -/
theorem HostSystem.act_call_dev {h h' : HostSystem} {n : Nat} {th : HostThread} {c : HostCall}
    (ha : h.act n th (.call c) = .next h') : h'.dev = h.dev := by
  simp only [act] at ha
  split at ha
  · split at ha
    · obtain rfl := Host.Outcome.next.inj ha; rfl
    · cases ha
  · cases ha

/-- Going on with a call, a view touches only the latches. -/
theorem HostSystem.goOn_view_touches {h h' : HostSystem} {n : Nat} {pc : HostPc}
    (hg : h.goOn n ⟨.view, pc⟩ = .next h') : TouchesOnlyLatches h.dev h'.dev := by
  unfold goOn at hg
  split at hg
  · obtain rfl := Host.Outcome.next.inj hg
    exact touchesOnlyLatches_refl _
  · split at hg
    · exact access_view_touches hg
    · cases hg

/-- Between its calls a view touches only the latches, whatever its program does. -/
theorem HostSystem.act_view_touches {h h' : HostSystem} {n : Nat} {pc : HostPc} {a : HostAction}
    (ha : h.act n ⟨.view, pc⟩ a = .next h') : TouchesOnlyLatches h.dev h'.dev := by
  cases a with
  | call c => rw [act_call_dev ha]; exact touchesOnlyLatches_refl _
  | issue wr offset width w => rw [act_issue] at ha; exact access_view_touches ha
  | obtain => rw [become_dev (c := .owner) ha]; exact touchesOnlyLatches_refl _
  | drop => rw [become_dev (c := .view) ha]; exact touchesOnlyLatches_refl _

/-! ### The settled statement, one theorem for each of its parts -/

/-- A view in a call of a well-formed set of threads issues one of its two reads and is answered. -/
theorem view_inCall_answered {h : HostSystem} {n : Nat} {pc : HostPc} {x : Input}
    (hw : h.wellFormed = true) (hn : h.threads[n]? = some ⟨.view, pc⟩) (hx : pc.access = some x) :
    ∃ i t, nextInstr h.dev x = .ok i ∧ IsViewRead i ∧ exec i h.dev = .next t ∧
      h.step (.thread n) = .next ⟨t, h.threads.set n ⟨.view, pc.resume (lastReply t)⟩⟩ := by
  obtain ⟨howner, hallowed⟩ := HostSystem.callAllowed_of_wellFormed hw hn
  cases hc : pc.call with
  | none => rw [(HostPc.access_none_iff pc).2 hc] at hx; cases hx
  | some c =>
    have hview : c.accessClass = .view := by
      simpa [HostThread.callAllowed, hc, mayCall_view_iff] using hallowed
    obtain ⟨i, hi, hread⟩ := nextInstr_of_viewCall hc hview hx h.dev
    have hexec := exec_viewRead hread h.dev
    refine ⟨i, effect i h.dev, hi, hread, hexec, ?_⟩
    rw [HostSystem.step_thread hn, HostSystem.goOn_access hx, if_pos hallowed]
    exact HostSystem.access_next_iff.2
      ⟨howner, i, _, hi, (mayIssue_view_iff i).2 hread, hexec, rfl⟩

/-- A view between calls that issues one of its two reads is answered with the value read. -/
theorem view_issue_answered {h : HostSystem} {n : Nat} {pc : HostPc} {wr : Bool}
    {offset width : Nat} {w : Word} {i : Instr} (ho : h.oneOwner = true)
    (hn : h.threads[n]? = some ⟨.view, pc⟩) (hpc : pc.call = none)
    (hi : nextInstr h.dev (.access wr offset width w) = .ok i) (hread : IsViewRead i) :
    h.step (.act n (.issue wr offset width w)) = .next ⟨effect i h.dev,
      h.threads.set n ⟨.view, .done (.value (lastReply (effect i h.dev)))⟩⟩ := by
  obtain rfl := not_wr_of_viewRead hread hi
  rw [HostSystem.step_act _ hn hpc, HostSystem.act_issue]
  exact HostSystem.access_next_iff.2
    ⟨ho, i, _, hi, (mayIssue_view_iff i).2 hread, exec_viewRead hread h.dev, rfl⟩

/-- A turn of a view that is answered touches only the latches. -/
theorem view_turn_touches {h h' : HostSystem} {n : Nat} {pc : HostPc} {turn : Turn}
    (hn : h.threads[n]? = some ⟨.view, pc⟩) (ht : turn = .thread n ∨ ∃ a, turn = .act n a)
    (hs : h.step turn = .next h') : TouchesOnlyLatches h.dev h'.dev := by
  obtain rfl | ⟨a, rfl⟩ := ht
  · rw [HostSystem.step_thread hn] at hs
    exact HostSystem.goOn_view_touches hs
  · by_cases hpc : pc.call = none
    · rw [HostSystem.step_act a hn hpc] at hs
      exact HostSystem.act_view_touches hs
    · simp [HostSystem.step, hn, hpc] at hs

/-- Settles O59: a view's turn by what its class may call and issue, and the block after it by the
effect of the two reads. -/
theorem sharedViewTouchesOnlyLatches : Obligations.SharedViewTouchesOnlyLatches := by
  refine ⟨?inCall, ?issue, ?call, ?outside, ?touches⟩
  case inCall =>
    rintro h n ⟨_, pc⟩ x hw hn rfl hx
    exact view_inCall_answered hw hn hx
  case issue =>
    rintro h n ⟨_, pc⟩ wr offset width w i ho hn rfl hpc hi
    refine ⟨fun hread => ⟨_, exec_viewRead hread h.dev, view_issue_answered ho hn hpc hi hread⟩,
      fun husr hlsr => ?_⟩
    rw [HostSystem.step_act _ hn hpc, HostSystem.act_issue]
    exact HostSystem.access_outsideClass ho hi (view_mayIssue_eq_false husr hlsr)
  case call =>
    rintro h n ⟨_, pc⟩ c hn rfl hpc
    rw [HostSystem.step_act _ hn hpc]
    refine ⟨fun hview => ?_, fun howner => ?_⟩
    · obtain ⟨first, hstart⟩ := exists_start_of_view hview
      refine ⟨first, hstart, ?_⟩
      simp [HostSystem.act, mayCall_view_iff, hview, hstart, HostSystem.setThread]
    · simp [HostSystem.act, mayCall_view_iff, howner]
  case outside =>
    rintro h n ⟨_, pc⟩ x i ho hn rfl hx hi husr hlsr
    rw [HostSystem.step_thread hn, HostSystem.goOn_access hx]
    split
    · exact HostSystem.access_outsideClass ho hi (view_mayIssue_eq_false husr hlsr)
    · rfl
  case touches =>
    rintro h h' n ⟨_, pc⟩ turn hn rfl ht hs
    exact view_turn_touches hn ht hs

end Sys2Proof.Machine
end

section
/-! SUPPORT. The classification of receive errors: it reads bits 4 to 0 of a Line Status value
(60_exceptions.md R203), and the settled statement of 60_exceptions.md. -/

namespace Sys2Proof.Machine

/-- Values that agree in bits 4 to 0 are of one class. -/
theorem rxClass_congr {v w : Byte} (h : ∀ i < 5, v.getLsbD i = w.getLsbD i) :
    rxClass v = rxClass w := by
  simp only [rxClass, h 4 (by decide), h 3 (by decide), h 2 (by decide), h 1 (by decide),
    h 0 (by decide)]

/-- The mask 0x1F keeps bits 4 to 0. -/
theorem getLsbD_and_0x1F (v : Byte) {i : Nat} (hi : i < 5) :
    (v &&& 0x1F).getLsbD i = v.getLsbD i := by
  have hmask : ∀ j < 5, (0x1F : Byte).getLsbD j = true := by decide
  rw [BitVec.getLsbD_and, hmask i hi, Bool.and_true]

/-- Settles O31: the chain is that of `rxClass`, and the mask keeps every bit the chain reads. -/
theorem receiveErrorPrecedence : Obligations.ReceiveErrorPrecedence :=
  fun v => ⟨rfl, rxClass_congr fun _ hi => (getLsbD_and_0x1F v hi).symm⟩

end Sys2Proof.Machine
end

section
/-! SUPPORT. Quiescent states and reset: the flags and the status values of a block with nothing
queued, shifting or being assembled; with the settled statements of 70_reset_and_hazards.md. -/

namespace Sys2Proof.Machine

/-! ### Quiescent states (70_reset_and_hazards.md R242) -/

/-- With nothing to send and no character being assembled, BUSY is left to the received data, where
the chip counts them (10_state.md R26). -/
theorem busy_iff_of_quiescent {s : State} (hq : quiescent s) :
    busy s = true ↔ s.params.busyOnRxData = true ∧ s.rxFifo ≠ [] := by
  obtain ⟨htx, hshift, hactive⟩ := hq
  simp [busy_iff, htx, hshift, hactive, List.length_pos_iff]

/-- Settles O53: the preconditions of the two events fail, and the flags are those of an empty
transmit FIFO and an empty shift stage. -/
theorem quiescentStateFlags : Obligations.QuiescentStateFlags := by
  intro s hq
  have ⟨htx, hshift, _⟩ := hq
  obtain ⟨hthre, htfe, htfnf, -, htemt⟩ := flags_of_txFifo_eq_nil htx
  exact ⟨(txTakeEnabled_eq_false_iff s).2 (.inl htx), (txDoneEnabled_eq_false_iff s).2 hshift,
    (disabledEventsFault .txTake s).2 (.inl ⟨rfl, .inl htx⟩),
    (disabledEventsFault .txDone s).2 (.inr (.inl ⟨rfl, hshift⟩)),
    htemt.2 hshift, hthre, htfe, htfnf, busy_iff_of_quiescent hq⟩

/-! ### Reset (70_reset_and_hazards.md R220) -/

/-- Settles O38: the modem inputs take the next free value, and every other element is that of
`State.reset`. -/
theorem resetEvent : Obligations.ResetEvent := fun s => ⟨drawn 4 s, rfl⟩

/-- Settles O40: each value is the one that the definition of `State.reset` writes. -/
theorem resetStateValues : Obligations.ResetStateValues :=
  ⟨rfl, rfl, rfl, rfl, rfl, rfl, rfl, rfl, rfl, rfl, rfl, rfl, rfl, rfl, rfl, rfl, rfl, rfl, rfl,
    rfl, rfl⟩

/-! ### What the registers read in the reset state (70_reset_and_hazards.md R221) -/

theorem quiescent_reset : quiescent State.reset := ⟨rfl, rfl, rfl⟩

/-- A quiescent block with no received data is not busy, whatever the chip counts as busy. -/
theorem busy_eq_false_of_empty {s : State} (hq : quiescent s) (hrx : s.rxFifo = []) :
    busy s = false :=
  Bool.eq_false_iff.2 fun hbusy => ((busy_iff_of_quiescent hq).1 hbusy).2 hrx

/-- UART Status of a quiescent block with no received data: TFNF and TFE. -/
theorem usrValue_of_empty {s : State} (hq : quiescent s) (hrx : s.rxFifo = []) :
    usrValue s = 0x06 := by
  have ⟨htx, _⟩ := hq
  obtain ⟨-, htfe, htfnf, -, -⟩ := flags_of_txFifo_eq_nil htx
  obtain ⟨-, hrfne, hrff, -⟩ := flags_of_rxFifo_eq_nil hrx
  rw [usrValue, busy_eq_false_of_empty hq hrx, htfnf, htfe, hrfne, hrff]
  rfl

/-- Line Status of a quiescent block with no received data and no latched error: TEMT and THRE below
the free bit 7. -/
theorem lsrValue_of_empty {s : State} (hq : quiescent s) (hrx : s.rxFifo = [])
    (hlatches : latches s = ⟨false, false, false, false⟩) (d : Bool) :
    lsrValue s d = if d then 0xE0 else 0x60 := by
  obtain ⟨htx, hshift, -⟩ := hq
  obtain ⟨hthre, -, -, -, htemt⟩ := flags_of_txFifo_eq_nil htx
  obtain ⟨hdr, -, -, -⟩ := flags_of_rxFifo_eq_nil hrx
  obtain ⟨hoe, hpe, hfe, hbi⟩ := Latches.mk.inj hlatches
  rw [lsrValue, hdr, hoe, hpe, hfe, hbi, hthre, htemt.2 hshift]
  cases d <;> rfl

/-- With no change reported, bits 3:0 of Modem Status are 0 at every level of the inputs. -/
theorem msrValue_and_0x0F {s : State} (h : s.msrDelta = 0) :
    zext32 (msrValue s) &&& 0x0F = 0 := by
  have hlines : ∀ lines : BitVec 4, zext32 (lines ++ (0 : BitVec 4)) &&& 0x0F = 0 := by decide
  rw [msrValue, h, hlines]

/-- In the reset state WR_LCR is not held off by BUSY (41_divisor_config.md R104). -/
theorem exec_wrLcr_reset (w : Word) :
    exec (.wrLcr w) State.reset = .next { State.reset with lcr := byteOperand w } :=
  unlessBusy_next.2 ⟨busy_eq_false_of_empty quiescent_reset rfl, rfl⟩

/-- Settles O41: each read answers the stored field or the status value of an empty block, and the
divisor latches are read past a WR_LCR that opens their window. -/
theorem resetStateReads : Obligations.ResetStateReads := by
  refine ⟨⟨_, exec_rdLsr _, ?lsr⟩, ⟨_, rfl, ?usr⟩, ⟨_, rfl, rfl⟩, ⟨_, rfl, rfl⟩, ⟨_, rfl, rfl⟩,
    ⟨_, rfl, rfl⟩, ⟨_, rfl, rfl⟩, ⟨_, rfl, rfl⟩, ⟨_, _, rfl, rfl, msrValue_and_0x0F rfl⟩,
    ⟨_, exec_wrLcr_reset 0x80, ⟨_, rfl, rfl⟩, ⟨_, rfl, rfl⟩, ⟨_, rfl, rfl⟩⟩⟩
  case lsr =>
    change [lsrAnswer State.reset] = _ ∨ [lsrAnswer State.reset] = _
    rw [lsrAnswer, lsrValue_of_empty quiescent_reset rfl rfl]
    cases (drawn 1 State.reset).getLsbD 0
    · exact .inl rfl
    · exact .inr rfl
  case usr =>
    rw [reply_replies, usrValue_of_empty quiescent_reset rfl]
    rfl

end Sys2Proof.Machine
end
